-- ==== Sys2Proof/Word.lean ====
section
/-! DEFINITION. The two machine words of the CORE (00_scope.md R5, R7): a byte and a 16-bit word. -/

namespace Sys2Proof

/-- An 8-bit value: a register, a memory byte, an instruction byte (R5). Bit 0 is the least significant bit (R7). -/
abbrev Byte := BitVec 8

/-- A 16-bit value: an address, SP, PC or a register pair (R5). -/
abbrev Word := BitVec 16

end Sys2Proof
end

