-- ==== Sys2Proof/Config.lean ====
section
/-! DEFINITION. The parameters of the machine (00_scope.md R6, 10_state.md R54, R56 to R58) and the values the model
takes for them at `State.reset`. A parameter is an argument of `construct` (Machine/Construct.lean), so the machine
with other parameters is modelled too. The values named here are the spec's own defaults. -/

namespace Sys2Proof

/-- INIT_CPU (10_state.md R56): the CPU registers at construction. IME, halted, cyc and fault are fixed, not parameters. -/
structure InitCpu where
  a : Byte
  f : Byte
  b : Byte
  c : Byte
  d : Byte
  e : Byte
  h : Byte
  l : Byte
  sp : Word
  pc : Word
deriving DecidableEq, Repr

/-- INIT_IO (10_state.md R57): the device registers at construction. LY, pcnt and the mode are not parameters: R57
fixes them from LCDC bit 7. -/
structure InitIo where
  ie : Byte
  ifr : Byte
  divc : Word
  tima : Byte
  tma : Byte
  tac : BitVec 3
  lcdc : Byte
  staten : BitVec 4
  coinc : Bool
  scy : Byte
  scx : Byte
  lyc : Byte
  bgp : Byte
  obp0 : Byte
  obp1 : Byte
  wy : Byte
  wx : Byte
  keys : Byte
  jsel : Byte
  lo : BitVec 5
  hi : BitVec 2
  bmode : Bool
  ramen : Bool
deriving DecidableEq, Repr

/-- INIT_MEM (10_state.md R58): the contents of the five memories at construction, each as the bytes that are not 0x00. -/
structure InitMem where
  wram : List Host.Cell
  hram : List Host.Cell
  vram : List Host.Cell
  oam : List Host.Cell
  cram : List Host.Cell
deriving DecidableEq, Repr

/-- Every parameter of the machine but the ROM image (00_scope.md R6). `extraOps` and `extraSubs` are the opcode bytes
and the 0xCB sub-bytes of EXTRA_DECODE_ERRORS (30_encoding.md R136). DESIGN CHOICE (log 14): `fbInit` may be any byte,
one of the four shades of R48 or not, since R58 names no check. -/
structure Params where
  cpu : InitCpu
  io : InitIo
  mem : InitMem
  fbInit : Byte
  extraOps : List Byte
  extraSubs : List Byte
deriving DecidableEq, Repr

/-- The default INIT_CPU (10_state.md R56). -/
def Config.initCpu : InitCpu :=
  { a := 0x01, f := 0xB0, b := 0x00, c := 0x13, d := 0x00, e := 0xD8, h := 0x01, l := 0x4D, sp := 0xFFFE, pc := 0x0100 }

/-- The default INIT_IO (10_state.md R57). -/
def Config.initIo : InitIo :=
  { ie := 0x00, ifr := 0x00, divc := 0x0000, tima := 0x00, tma := 0x00, tac := 0, lcdc := 0x91, staten := 0,
    coinc := false, scy := 0x00, scx := 0x00, lyc := 0x00, bgp := 0xFC, obp0 := 0xFF, obp1 := 0xFF, wy := 0x00,
    wx := 0x00, keys := 0xFF, jsel := 0xFF, lo := 0, hi := 0, bmode := false, ramen := false }

/-- The default INIT_MEM (10_state.md R58): every byte 0x00. -/
def Config.initMem : InitMem :=
  { wram := [], hram := [], vram := [], oam := [], cram := [] }

/-- The default parameters: FB_INIT is 0xFF (R58) and EXTRA_DECODE_ERRORS is empty (R136). -/
def Config.params : Params :=
  { cpu := Config.initCpu, io := Config.initIo, mem := Config.initMem, fbInit := 0xFF, extraOps := [], extraSubs := [] }

/-- DESIGN CHOICE (log 3): the length of the ROM image that `State.reset` is constructed from, the 32 KiB image of
95_test_vectors.md's common start state, every byte 0x00. -/
def Config.romSize : Nat := 0x8000

end Sys2Proof
end

