-- ==== Sys2Proof/Machine/State.lean ====
section
/-! DEFINITION. The state of the CORE as plain data (10_state.md R30 to R52), the reasons a step can stop, and the
state right after construction, the machine's only reset (70_reset_and_hazards.md R500, R502). -/

namespace Sys2Proof.Machine

/-- The values of a keyed store: the listed keys strictly rising, no entry equal to what an unlisted key reads as. -/
abbrev Sparse (α : Type) := List (Nat × α)

/-- A memory: its bytes by index, those that differ from `Memory.unlisted` only. -/
abbrev Memory := List Host.Cell

/-- What a byte no entry lists reads as: INIT_MEM's default, 0x00 (10_state.md R58). -/
def Memory.unlisted : Byte := 0x00

/-- The fatal errors of 60_exceptions.md R400. A step that raises one answers a NEXT state whose `fault` field holds it
(R401: the state is left as it stood at that point); every later step answers `.fault` with it. -/
inductive Fault where
  /-- Raised by an unused opcode byte (R315), by STOP with a nonzero trailing byte (R312), and by a byte of
  EXTRA_DECODE_ERRORS (R136): the instruction's address and the byte that failed. Safe: the spec's own fatal error. -/
  | decodeError (addr : Word) (byte : Byte)
  /-- Raised by a write of a page below 0x80 or above 0xDF to 0xFF46 (R82). Safe: the spec's own fatal error. -/
  | configError (page : Byte)
  /-- Raised by nothing: R96 says no execution of this spec raises it. Safe: it is here because R38 and R400 name it. -/
  | addressError (addr : Word)
  /-- Raised by a cartridge access outside the ROM image or the external RAM (R95). Safe: the spec's own fatal error. -/
  | boundsError (addr : Word)
deriving DecidableEq, Repr

/-- Why the model gives an instruction no meaning. No arm of `exec` uses it. -/
inductive Refusal where
  /-- Would be raised by the arm of an instruction that has no meaning yet. Safe: the machine stops. -/
  | notModelled (mnemonic : String)
deriving DecidableEq, Repr

/-- The PPU's mode (10_state.md R44): 0 H-blank, 1 V-blank, 2 OAM scan, 3 pixel transfer. -/
inductive PpuMode where
  | hblank
  | vblank
  | oamScan
  | transfer
deriving DecidableEq, Repr

/-- The CPU registers (10_state.md R30, R33, R34). F holds the flags in bits 7..4; its bits 3..0 are zero (R32). -/
structure Regs where
  a : Byte
  f : Byte
  b : Byte
  c : Byte
  d : Byte
  e : Byte
  h : Byte
  l : Byte
  sp : Word
  pc : Word
deriving DecidableEq, Repr

/-- The Timer (10_state.md R42, R43). -/
structure Timer where
  divc : Word
  tima : Byte
  tma : Byte
  tac : BitVec 3
deriving DecidableEq, Repr

/-- The PPU: its registers, memories and outputs (10_state.md R44 to R48). `staten` is STAT bits 6..3. `fb` and `bgpri`
are keyed by 160 * row + column; `fbInit` is the shade of a framebuffer byte not rendered since construction (R58). -/
structure Ppu where
  lcdc : Byte
  staten : BitVec 4
  coinc : Bool
  mode : PpuMode
  pcnt : Word
  scy : Byte
  scx : Byte
  ly : Byte
  lyc : Byte
  bgp : Byte
  obp0 : Byte
  obp1 : Byte
  wy : Byte
  wx : Byte
  vram : Memory
  oam : Memory
  fb : Memory
  fbInit : Byte
  bgpri : Sparse Bool
deriving DecidableEq, Repr

/-- The Joypad (10_state.md R49): the inverted key latch and the selector. -/
structure Joypad where
  keys : Byte
  jsel : Byte
deriving DecidableEq, Repr

/-- The ROM image: its length and its bytes, those that are not 0x00 only (10_state.md R50). -/
structure Rom where
  size : Nat
  bytes : Memory
deriving DecidableEq, Repr

/-- The cartridge (10_state.md R50): the immutable image, the bank count and the external RAM size derived from it at
construction (20_memory.md R94), the external RAM, and the four MBC1 latches. -/
structure Cart where
  rom : Rom
  nbanks : Nat
  cramSize : Nat
  cram : Memory
  lo : BitVec 5
  hi : BitVec 2
  bmode : Bool
  ramen : Bool
deriving DecidableEq, Repr

/-- EXTRA_DECODE_ERRORS (30_encoding.md R136): constants of the machine, carried here so that every statement about a
state holds for every choice of the parameter. -/
structure ExtraDecode where
  ops : List Byte
  subs : List Byte
deriving DecidableEq, Repr

/-- The whole state of the CORE. -/
structure State where
  regs : Regs
  ime : Bool
  halted : Bool
  cyc : Nat
  fault : Option Fault
  ie : Byte
  ifr : Byte
  timer : Timer
  ppu : Ppu
  joy : Joypad
  cart : Cart
  wram : Memory
  hram : Memory
  serout : List Byte
  extra : ExtraDecode
deriving DecidableEq, Repr

/-- The machine right after construction with the default parameters and the blank ROM image (R500, R502; log 3).
The bank count 2 and the external RAM size 0 are what R94 derives from that image's header bytes, both 0x00. -/
def State.reset : State :=
  { regs := { a := 0x01, f := 0xB0, b := 0x00, c := 0x13, d := 0x00, e := 0xD8, h := 0x01, l := 0x4D,
              sp := 0xFFFE, pc := 0x0100 }
    ime := false
    halted := false
    cyc := 0
    fault := none
    ie := 0x00
    ifr := 0x00
    timer := { divc := 0x0000, tima := 0x00, tma := 0x00, tac := 0 }
    ppu := { lcdc := 0x91, staten := 0, coinc := false, mode := .oamScan, pcnt := 0, scy := 0x00, scx := 0x00,
             ly := 0x00, lyc := 0x00, bgp := 0xFC, obp0 := 0xFF, obp1 := 0xFF, wy := 0x00, wx := 0x00,
             vram := [], oam := [], fb := [], fbInit := 0xFF, bgpri := [] }
    joy := { keys := 0xFF, jsel := 0xFF }
    cart := { rom := { size := Config.romSize, bytes := [] }, nbanks := 2, cramSize := 0, cram := [],
              lo := 0, hi := 0, bmode := false, ramen := false }
    wram := []
    hram := []
    serout := []
    extra := { ops := [], subs := [] } }

end Sys2Proof.Machine
end

