-- ==== Sys2Proof/Machine/Bits.lean ====
section
/-! DEFINITION. Bit fields, byte order and sign extension (00_scope.md R7, R8; 10_state.md R31). -/

namespace Sys2Proof.Machine

/-- v[15:8], the high byte of a 16-bit value (R7). -/
def hiByte (v : Word) : Byte := v.extractLsb' 8 8

/-- v[7:0], the low byte of a 16-bit value (R7). -/
def loByte (v : Word) : Byte := v.extractLsb' 0 8

/-- hi : lo, the 16-bit value with `hi` in the high part (R7, R31). -/
def word16 (hi lo : Byte) : Word := hi ++ lo

/-- sext_16 of a byte: bit 7 is the sign (R8). -/
def sext16 (v : Byte) : Word := v.signExtend 16

/-- 0xFF00 + n (30_encoding.md R127). -/
def highPage (n : Byte) : Word := word16 0xFF n

/-- The bit b of a byte, b = 0 the least significant (R7). -/
def bitOf (v : Byte) (b : BitVec 3) : Bool := v.getLsbD b.toNat

end Sys2Proof.Machine
end

