-- ==== Sys2Proof/Machine/Memory.lean ====
section
/-! DEFINITION. Reading and writing keyed stores and memories in their one canonical form (10_state.md R48, R50, R51).
The form: keys strictly rising and inside the store, no entry equal to what an unlisted key reads as. -/

namespace Sys2Proof.Machine

/-- The value at a key; `d` is what an unlisted key reads as. -/
def Sparse.get {α : Type} (d : α) : Sparse α → Nat → α
  | [], _ => d
  | (k, v) :: rest, a => if k = a then v else Sparse.get d rest a

/-- The store with the value `v` at the key `a`, in canonical form again. -/
def Sparse.put {α : Type} [DecidableEq α] (d : α) : Sparse α → Nat → α → Sparse α
  | [], a, v => if v = d then [] else [(a, v)]
  | (k, w) :: rest, a, v =>
    if a < k then (if v = d then (k, w) :: rest else (a, v) :: (k, w) :: rest)
    else if a = k then (if v = d then rest else (k, v) :: rest)
    else (k, w) :: Sparse.put d rest a v

/-- The store with the values `vs` at the keys from `base` on. -/
def Sparse.putRange {α : Type} [DecidableEq α] (d : α) (m : Sparse α) (base : Nat) : List α → Sparse α
  | [] => m
  | v :: vs => Sparse.putRange d (Sparse.put d m base v) (base + 1) vs

/-- The canonical form of a store of `n` values whose unlisted keys read as `d`. -/
abbrev Sparse.wf {α : Type} [DecidableEq α] (d : α) (n : Nat) (m : Sparse α) : Prop :=
  m.Pairwise (fun x y => x.1 < y.1) ∧ ∀ c ∈ m, c.1 < n ∧ c.2 ≠ d

/-- One byte of a memory. -/
def Memory.read (m : Memory) (a : Nat) : Byte := Sparse.get Memory.unlisted m a

/-- The memory with the byte `v` at the index `a`. -/
def Memory.write (m : Memory) (a : Nat) (v : Byte) : Memory := Sparse.put Memory.unlisted m a v

/-- The canonical form of a memory of `n` bytes. -/
abbrev Memory.wf (n : Nat) (m : Memory) : Prop := Sparse.wf Memory.unlisted n m

/-- The memory of `n` bytes that holds the listed ones, a later one replacing an earlier, those outside it dropped. -/
def Memory.ofCells (n : Nat) (cells : List Host.Cell) : Memory :=
  cells.foldl (fun m c => if c.1 < n then Memory.write m c.1 c.2 else m) []

end Sys2Proof.Machine
end

