-- ==== Sys2Proof/Machine/Cart.lean ====
section
/-! DEFINITION. The MBC1 cartridge (20_memory.md R85 to R95). -/

namespace Sys2Proof.Machine

/-- ROM[i] for i < length(ROM). -/
def Rom.byte (r : Rom) (i : Nat) : Byte := r.bytes.read i

/-- RomByte(i) of R85 for the access at the bus address `a`; an index outside the image is a BoundsError (R95). -/
def romByte (c : Cart) (a : Word) (i : Nat) : Except Fault Byte :=
  if i < c.rom.size then .ok (c.rom.byte i) else .error (.boundsError a)

/-- EffBank() (R86): compose, bump 0x00, 0x20, 0x40, 0x60 by one, mask to the bank count. DEDUCED (log 12): where R97,
derived from R86, says otherwise (NBANKS = 2, LO = 2, HI = 0), R86's steps decide. -/
def effBank (c : Cart) : Nat :=
  let b := if c.bmode then c.lo.toNat else (c.hi.toNat <<< 5) ||| c.lo.toNat
  let b' := if b = 0x00 ∨ b = 0x20 ∨ b = 0x40 ∨ b = 0x60 then b + 1 else b
  b' &&& (c.nbanks - 1)

/-- CramIndex(a) (R93): bank HI in RAM-banking mode, bank 0 otherwise. -/
def cramIndex (c : Cart) (a : Word) : Nat :=
  (a &&& 0x1FFF).toNat + 0x2000 * (if c.bmode then c.hi.toNat else 0)

/-- A cartridge read (R85, R86, R87). -/
def cartRead (c : Cart) (a : Word) : Except Fault Byte :=
  if a.toNat ≤ 0x3FFF then romByte c a a.toNat
  else if a.toNat ≤ 0x7FFF then romByte c a (effBank c * 0x4000 + (a.toNat - 0x4000))
  else if c.ramen = false then .ok 0xFF
  else if cramIndex c a < c.cramSize then .ok (c.cram.read (cramIndex c a))
  else .error (.boundsError a)

/-- A cartridge write (R88 to R92): below 0x8000 it sets a latch, never a ROM byte. -/
def cartWrite (c : Cart) (a : Word) (v : Byte) : Except Fault Cart :=
  if a.toNat ≤ 0x1FFF then .ok { c with ramen := decide (v &&& 0x0F = 0x0A) }
  else if a.toNat ≤ 0x3FFF then .ok { c with lo := v.setWidth 5 }
  else if a.toNat ≤ 0x5FFF then .ok { c with hi := v.setWidth 2 }
  else if a.toNat ≤ 0x7FFF then .ok { c with bmode := v.getLsbD 0 }
  else if c.ramen = false then .ok c
  else if cramIndex c a < c.cramSize then .ok { c with cram := c.cram.write (cramIndex c a) v }
  else .error (.boundsError a)

end Sys2Proof.Machine
end

