-- ==== Sys2Proof/Machine/Interrupts.lean ====
section
/-! DEFINITION. The five interrupts, their request bits, priority and vectors (10_state.md R39 to R41;
60_exceptions.md R406 to R409, R413). -/

namespace Sys2Proof.Machine

/-- The interrupt sources in priority order, V-Blank first (R41, R406). -/
inductive Interrupt where
  | vblank
  | stat
  | timer
  | serial
  | joypad
deriving DecidableEq, Repr

/-- The bit of IE and IF that an interrupt has (R41). -/
def Interrupt.bit : Interrupt → BitVec 3
  | .vblank => 0
  | .stat => 1
  | .timer => 2
  | .serial => 3
  | .joypad => 4

/-- The interrupt's one-bit mask, 1 << i. -/
def Interrupt.mask (i : Interrupt) : Byte := 1#8 <<< i.bit.toNat

/-- The vector address, 0x0040 + 8 * i (R413). -/
def Interrupt.vector (i : Interrupt) : Word := 0x0040 + 8 * i.bit.setWidth 16

/-- SetIF(i): IF <- IF | (1 << i) (R407). -/
def requestIrq (i : Interrupt) (s : State) : State := { s with ifr := s.ifr ||| i.mask }

/-- IE[i] = 1 and IF[i] = 1 (R408). -/
def enabledAndPending (ie ifr : Byte) (i : Interrupt) : Bool := bitOf ie i.bit && bitOf ifr i.bit

/-- The lowest i in 0..4 with IE[i] = 1 and IF[i] = 1, if any (R409). -/
def pendingInterrupt (ie ifr : Byte) : Option Interrupt :=
  [Interrupt.vblank, .stat, .timer, .serial, .joypad].find? (enabledAndPending ie ifr)

end Sys2Proof.Machine
end

