-- ==== Sys2Proof/Machine/Joypad.lean ====
section
/-! DEFINITION. The Joypad: its register and the host's key events (60_exceptions.md R450 to R454). -/

namespace Sys2Proof.Machine

/-- A read of 0xFF00 (R453): bit 4 clear exposes the direction nibble and wins; bit 5 clear the action nibble. -/
def joypadRead (j : Joypad) : Byte :=
  if j.jsel.getLsbD 4 = false then (j.jsel &&& 0xF0) ||| (j.keys >>> 4)
  else if j.jsel.getLsbD 5 = false then (j.jsel &&& 0xF0) ||| (j.keys &&& 0x0F)
  else j.jsel

/-- A write of 0xFF00 (R454): only bits 5 and 4 of the selector change. -/
def joypadWrite (j : Joypad) (v : Byte) : Joypad := { j with jsel := (j.jsel &&& 0xCF) ||| (v &&& 0x30) }

/-- The eight buttons (10_state.md R49). -/
inductive Key where
  | down
  | up
  | left
  | right
  | start
  | select
  | b
  | a
deriving DecidableEq, Repr

/-- bit(k), the button's bit of KEYS (R450). -/
def Key.bit : Key → BitVec 3
  | .down => 7
  | .up => 6
  | .left => 5
  | .right => 4
  | .start => 3
  | .select => 2
  | .b => 1
  | .a => 0

/-- keydown(k), a host event between two steps (R451): the key's bit is cleared and the interrupt requested always. -/
def keydown (k : Key) (s : State) : State :=
  requestIrq .joypad { s with joy := { s.joy with keys := s.joy.keys &&& ~~~(1#8 <<< k.bit.toNat) } }

/-- keyup(k), a host event between two steps (R452). -/
def keyup (k : Key) (s : State) : State :=
  { s with joy := { s.joy with keys := s.joy.keys ||| (1#8 <<< k.bit.toNat) } }

end Sys2Proof.Machine
end

