-- ==== Sys2Proof/Machine/Render.lean ====
section
/-! DEFINITION. The scanline renderer: background and window into the framebuffer row and its priority tags
(60_exceptions.md R440 to R447). It reads VRAM directly, with no gating and no cycle charge (20_memory.md R109).
Sprites are never drawn (R447). -/

namespace Sys2Proof.Machine

/-- The index into VRAM of the tile data of tile `t`, TileAddr(t) - 0x8000 (R441). -/
def tileIndex (p : Ppu) (t : Byte) : Nat :=
  if p.lcdc.getLsbD 4 then 16 * t.toNat else (0x1000 + 16 * t.toInt).toNat

/-- Pixel(map, px, py) (R440): the colour index of a pixel of the 256 x 256 map whose base index in VRAM is `map`. -/
def pixel (p : Ppu) (map px py : Nat) : BitVec 2 :=
  let t := p.vram.read (map + 32 * (py >>> 3) + (px >>> 3))
  let ta := tileIndex p t + 2 * (py % 8)
  let lo := p.vram.read ta
  let hi := p.vram.read (ta + 1)
  let b := 7 - px % 8
  BitVec.ofBool (hi.getLsbD b) ++ BitVec.ofBool (lo.getLsbD b)

/-- The map bases 0x9C00 and 0x9800 as indices into VRAM (R440; 10_state.md R45). -/
def mapBase (select : Bool) : Nat := if select then 0x1C00 else 0x1800

/-- The background's colour index at column x of line y (R440): both coordinates wrap modulo 256. -/
def backgroundPixel (p : Ppu) (y x : Nat) : BitVec 2 :=
  pixel p (mapBase (p.lcdc.getLsbD 3)) ((p.scx.toNat + x) % 256) ((p.scy.toNat + y) % 256)

/-- The window's colour index at column x of line y (R440, R443). -/
def windowPixel (p : Ppu) (y x : Nat) : BitVec 2 :=
  pixel p (mapBase (p.lcdc.getLsbD 6)) (x + 7 - p.wx.toNat) (y - p.wy.toNat)

/-- The column at which rendering switches to the window: LCDC[5] = 1, WY <= LY and WX = x + 7 (R443). -/
def windowStartsAt (p : Ppu) (y x : Nat) : Bool :=
  p.lcdc.getLsbD 5 && decide (p.wy.toNat ≤ y) && decide (p.wx.toNat = x + 7)

/-- The colour indices of the `n` columns from x on; `win` says whether the window has started (R440's loop). -/
def lineColours (p : Ppu) (y : Nat) : (n x : Nat) → (win : Bool) → List (BitVec 2)
  | 0, _, _ => []
  | n + 1, x, win =>
    let win' := win || windowStartsAt p y x
    (if win' then windowPixel p y x else backgroundPixel p y x) :: lineColours p y n (x + 1) win'

/-- SHADE[(BGP >> (2 * c)) & 3] (R442). -/
def shade (bgp : Byte) (c : BitVec 2) : Byte :=
  match (bgp >>> (2 * c.toNat)).extractLsb' 0 2 with
  | 0 => 0xFF
  | 1 => 0xAA
  | 2 => 0x55
  | 3 => 0x00

/-- The 160 shades of line y: all 0xFF with the background disabled (R440, R445). -/
def lineShades (p : Ppu) (y : Nat) : List Byte :=
  if p.lcdc.getLsbD 0 then (lineColours p y 160 0 false).map (shade p.bgp) else List.replicate 160 0xFF

/-- The 160 priority tags of line y: colour index 1..3, or all false with the background disabled (R444, R445). -/
def linePriority (p : Ppu) (y : Nat) : List Bool :=
  if p.lcdc.getLsbD 0 then (lineColours p y 160 0 false).map (fun c => decide (c ≠ 0)) else List.replicate 160 false

/-- The shade of the framebuffer at a row and a column (R48). -/
def Ppu.fbAt (p : Ppu) (row col : Nat) : Byte := Sparse.get p.fbInit p.fb (160 * row + col)

/-- The background-priority tag at a row and a column (R48). -/
def Ppu.bgpriAt (p : Ppu) (row col : Nat) : Bool := Sparse.get false p.bgpri (160 * row + col)

/-- RenderScanline() (R440) for y = LY. DESIGN CHOICE (log 8): with LY above 143, where R440 is never called, nothing
is drawn. -/
def renderScanline (p : Ppu) : Ppu :=
  if p.ly.toNat < 144 then
    { p with fb := Sparse.putRange p.fbInit p.fb (160 * p.ly.toNat) (lineShades p p.ly.toNat)
             bgpri := Sparse.putRange false p.bgpri (160 * p.ly.toNat) (linePriority p p.ly.toNat) }
  else p

end Sys2Proof.Machine
end

