-- ==== Sys2Proof/Machine/Ppu.lean ====
section
/-! DEFINITION. The PPU's mode machine and register file (60_exceptions.md R430 to R439; 10_state.md R44 to R47). -/

namespace Sys2Proof.Machine

/-- LCDC[7], the display enable (10_state.md R45). -/
def Ppu.displayOn (p : Ppu) : Bool := p.lcdc.getLsbD 7

/-- The mode's number, STAT[1:0] (10_state.md R44, R46). -/
def PpuMode.bits : PpuMode → BitVec 2
  | .hblank => 0
  | .vblank => 1
  | .oamScan => 2
  | .transfer => 3

/-- The mode-entry enable of STAT: bit 3 for mode 0, bit 4 for mode 1, bit 5 for mode 2, none for mode 3 (R432).
`staten` is STAT[6:3]. -/
def Ppu.modeEnable (p : Ppu) : PpuMode → Bool
  | .hblank => p.staten.getLsbD 0
  | .vblank => p.staten.getLsbD 1
  | .oamScan => p.staten.getLsbD 2
  | .transfer => false

/-- STAT[6], the LY==LYC enable (10_state.md R46). -/
def Ppu.lycEnable (p : Ppu) : Bool := p.staten.getLsbD 3

/-- EnterMode(m) (R432): the mode, the STAT request of its enable, and at mode 3 the scanline. -/
def enterMode (m : PpuMode) (s : State) : State :=
  let s1 := { s with ppu := { s.ppu with mode := m } }
  let s2 := if s.ppu.modeEnable m then requestIrq .stat s1 else s1
  if m = .transfer then { s2 with ppu := renderScanline s2.ppu } else s2

/-- CompareLY() (R434). -/
def compareLY (s : State) : State :=
  let eq := decide (s.ppu.ly = s.ppu.lyc)
  let s1 := { s with ppu := { s.ppu with coinc := eq } }
  if eq && s.ppu.lycEnable then requestIrq .stat s1 else s1

/-- LY <- v by the mode machine. -/
def setLY (v : Byte) (s : State) : State := { s with ppu := { s.ppu with ly := v } }

/-- The mode-cycle counter, stored in 16 bits (R437). -/
def setPcnt (p : Nat) (s : State) : State := { s with ppu := { s.ppu with pcnt := BitVec.ofNat 16 p } }

/-- H-blank ends (R431): the next line, then V-Blank at LY = 144 (R433) or mode 2. -/
def hblankEnds (s : State) : State :=
  let s1 := compareLY (setLY (s.ppu.ly + 1) s)
  if s1.ppu.ly = 144 then requestIrq .vblank (enterMode .vblank s1) else enterMode .oamScan s1

/-- One V-blank line ends (R431): the next line, or the wrap to line 0 and mode 2. Mode 1 is not entered again. -/
def vblankLineEnds (s : State) : State :=
  if s.ppu.ly + 1 = 154 then enterMode .oamScan (compareLY (setLY 0 s))
  else compareLY (setLY (s.ppu.ly + 1) s)

/-- The cycles of the mode: 204, 456 per V-blank line, 80, 172 (R431). -/
def PpuMode.length : PpuMode → Nat
  | .hblank => 204
  | .vblank => 456
  | .oamScan => 80
  | .transfer => 172

/-- The transition at the end of the mode (R431). -/
def modeEnds (s : State) : State :=
  match s.ppu.mode with
  | .oamScan => enterMode .transfer s
  | .transfer => enterMode .hblank s
  | .hblank => hblankEnds s
  | .vblank => vblankLineEnds s

/-- The loop of PpuUpdate (R431) with `p` cycles in the current mode: every transition owed, the rest in pcnt.
The fuel p / 80 + 1 is enough, since every mode lasts at least 80 cycles. -/
def ppuLoop : (fuel p : Nat) → State → State
  | 0, p, s => setPcnt p s
  | fuel + 1, p, s =>
    if s.ppu.mode.length ≤ p then ppuLoop fuel (p - s.ppu.mode.length) (modeEnds s) else setPcnt p s

/-- PpuUpdate(t) (R430, R431): nothing while the display is off. -/
def ppuUpdate (cycles : Nat) (s : State) : State :=
  if s.ppu.displayOn then
    let p := s.ppu.pcnt.toNat + cycles
    ppuLoop (p / 80 + 1) p s
  else s

/-- A write of LCDC (R438): all 8 bits; a change of bit 7 restarts the frame, in mode 2 (on) or 0 (off). -/
def lcdcWrite (v : Byte) (s : State) : State :=
  let s1 := { s with ppu := { s.ppu with lcdc := v } }
  if v.getLsbD 7 = s.ppu.displayOn then s1
  else enterMode (if v.getLsbD 7 then .oamScan else .hblank) (setPcnt 0 (setLY 0 s1))

/-- A read of STAT: 0 : STATEN[6:3] : coinc : mode[1:0] (10_state.md R46). -/
def statRead (p : Ppu) : Byte := 0#1 ++ p.staten ++ BitVec.ofBool p.coinc ++ p.mode.bits

/-- A read of 0xFF40 to 0xFF45 or 0xFF47 to 0xFF4B (10_state.md R45 to R47, R53). -/
def ppuRegRead (p : Ppu) (a : Word) : Byte :=
  if a = 0xFF40 then p.lcdc
  else if a = 0xFF41 then statRead p
  else if a = 0xFF42 then p.scy
  else if a = 0xFF43 then p.scx
  else if a = 0xFF44 then p.ly
  else if a = 0xFF45 then p.lyc
  else if a = 0xFF47 then p.bgp
  else if a = 0xFF48 then p.obp0
  else if a = 0xFF49 then p.obp1
  else if a = 0xFF4A then p.wy
  else p.wx

/-- A write of 0xFF40 to 0xFF45 or 0xFF47 to 0xFF4B (10_state.md R46, R47; R438, R439). A write of LY is discarded. -/
def ppuRegWrite (a : Word) (v : Byte) (s : State) : State :=
  if a = 0xFF40 then lcdcWrite v s
  else if a = 0xFF41 then { s with ppu := { s.ppu with staten := v.extractLsb' 3 4 } }
  else if a = 0xFF42 then { s with ppu := { s.ppu with scy := v } }
  else if a = 0xFF43 then { s with ppu := { s.ppu with scx := v } }
  else if a = 0xFF44 then s
  else if a = 0xFF45 then { s with ppu := { s.ppu with lyc := v } }
  else if a = 0xFF47 then { s with ppu := { s.ppu with bgp := v } }
  else if a = 0xFF48 then { s with ppu := { s.ppu with obp0 := v } }
  else if a = 0xFF49 then { s with ppu := { s.ppu with obp1 := v } }
  else if a = 0xFF4A then { s with ppu := { s.ppu with wy := v } }
  else { s with ppu := { s.ppu with wx := v } }

end Sys2Proof.Machine
end

