-- ==== Sys2Proof/Machine/Timer.lean ====
section
/-! DEFINITION. The Timer (60_exceptions.md R420 to R424). -/

namespace Sys2Proof.Machine

/-- TAC[2], the timer enable (10_state.md R43). -/
def Timer.enabled (t : Timer) : Bool := t.tac.getLsbD 2

/-- The bit position k that TAC[1:0] selects (R421). -/
def Timer.shift (t : Timer) : Nat :=
  match t.tac.extractLsb' 0 2 with
  | 0 => 10
  | 1 => 4
  | 2 => 6
  | 3 => 8

/-- The increments owed by `t` cycles: the multiples of 2^k the counter passes, a wrap counted like any other (R421). -/
def Timer.increments (t : Timer) (cycles : Nat) : Nat :=
  ((t.divc.toNat + cycles) >>> t.shift) - (t.divc.toNat >>> t.shift)

/-- ApplyIncrements(n) (R422): the exact sum decides; on overflow TIMA <- TMA + (n - 1) and one timer interrupt. -/
def applyIncrements (n : Nat) (s : State) : State :=
  if s.timer.tima.toNat + n > 0xFF then
    requestIrq .timer { s with timer := { s.timer with tima := BitVec.ofNat 8 (s.timer.tma.toNat + (n - 1)) } }
  else
    { s with timer := { s.timer with tima := BitVec.ofNat 8 (s.timer.tima.toNat + n) } }

/-- TimerUpdate(t) (R420): DIVC always advances; the increments are counted from its old value. -/
def timerUpdate (cycles : Nat) (s : State) : State :=
  let n := s.timer.increments cycles
  let s' := { s with timer := { s.timer with divc := BitVec.ofNat 16 (s.timer.divc.toNat + cycles) } }
  if s.timer.enabled then applyIncrements n s' else s'

/-- A read of 0xFF04 to 0xFF07 (R423, R424; 10_state.md R42, R43). -/
def timerRead (t : Timer) (a : Word) : Byte :=
  if a = 0xFF04 then hiByte t.divc
  else if a = 0xFF05 then t.tima
  else if a = 0xFF06 then t.tma
  else t.tac.setWidth 8

/-- A write of 0xFF04 to 0xFF07 (R423, R424; 10_state.md R43). -/
def timerWrite (t : Timer) (a : Word) (v : Byte) : Timer :=
  if a = 0xFF04 then { t with divc := 0 }
  else if a = 0xFF05 then { t with tima := v }
  else if a = 0xFF06 then { t with tma := v }
  else { t with tac := v.setWidth 3 }

end Sys2Proof.Machine
end

