-- ==== Sys2Proof/Machine/Bus.lean ====
section
/-! DEFINITION. The bus dispatch of one byte access, without the cycle charge (20_memory.md R73 to R79, R83, R84).
The OAM-DMA trigger 0xFF46 is the one write that is not here: it makes accesses of its own (Machine/Ops.lean). -/

namespace Sys2Proof.Machine

/-- A VRAM read: 0xFF in mode 3 (R83). -/
def vramRead (p : Ppu) (a : Word) : Byte :=
  if p.mode = .transfer then 0xFF else p.vram.read (a.toNat - 0x8000)

/-- A VRAM write: discarded in mode 3 (R83). -/
def vramWrite (p : Ppu) (a : Word) (v : Byte) : Ppu :=
  if p.mode = .transfer then p else { p with vram := p.vram.write (a.toNat - 0x8000) v }

/-- OAM is open to the bus in modes 0 and 1 (R84). -/
def Ppu.oamOpen (p : Ppu) : Bool := decide (p.mode = .hblank) || decide (p.mode = .vblank)

/-- An OAM read: 0xFF in modes 2 and 3 (R84). -/
def oamRead (p : Ppu) (a : Word) : Byte := if p.oamOpen then p.oam.read (a.toNat - 0xFE00) else 0xFF

/-- An OAM write: discarded in modes 2 and 3 (R84). -/
def oamWrite (p : Ppu) (a : Word) (v : Byte) : Ppu :=
  if p.oamOpen then { p with oam := p.oam.write (a.toNat - 0xFE00) v } else p

/-- The addresses of the PPU's register file: 0xFF40 to 0xFF45 and 0xFF47 to 0xFF4B (R73). -/
def isPpuReg (a : Word) : Bool :=
  decide (0xFF40 ≤ a.toNat ∧ a.toNat ≤ 0xFF45) || decide (0xFF47 ≤ a.toNat ∧ a.toNat ≤ 0xFF4B)

/-- BusRead(a) (R73): the byte read, or the fault a cartridge access raises (R95). It changes nothing (R102). -/
def busRead (s : State) (a : Word) : Except Fault Byte :=
  if a.toNat ≤ 0x7FFF then cartRead s.cart a
  else if a.toNat ≤ 0x9FFF then .ok (vramRead s.ppu a)
  else if a.toNat ≤ 0xBFFF then cartRead s.cart a
  else if a.toNat ≤ 0xDFFF then .ok (s.wram.read (a &&& 0x1FFF).toNat)
  else if 0xFE00 ≤ a.toNat ∧ a.toNat ≤ 0xFE9F then .ok (oamRead s.ppu a)
  else if a = 0xFF00 then .ok (joypadRead s.joy)
  else if 0xFF04 ≤ a.toNat ∧ a.toNat ≤ 0xFF07 then .ok (timerRead s.timer a)
  else if a = 0xFF0F then .ok s.ifr
  else if isPpuReg a then .ok (ppuRegRead s.ppu a)
  else if 0xFF80 ≤ a.toNat ∧ a.toNat ≤ 0xFFFE then .ok (s.hram.read (a.toNat - 0xFF80))
  else if a = 0xFFFF then .ok s.ie
  else .ok 0x00

/-- A cartridge write on the bus (R88 to R92, R95). -/
def busCartWrite (s : State) (a : Word) (v : Byte) : Except Fault State :=
  match cartWrite s.cart a v with
  | .ok c => .ok { s with cart := c }
  | .error f => .error f

/-- BusWrite(a, v) (R74) for every address but 0xFF46: the state after it, or the fault a cartridge access raises. -/
def busStore (s : State) (a : Word) (v : Byte) : Except Fault State :=
  if a.toNat ≤ 0x7FFF then busCartWrite s a v
  else if a.toNat ≤ 0x9FFF then .ok { s with ppu := vramWrite s.ppu a v }
  else if a.toNat ≤ 0xBFFF then busCartWrite s a v
  else if a.toNat ≤ 0xDFFF then .ok { s with wram := s.wram.write (a &&& 0x1FFF).toNat v }
  else if 0xFE00 ≤ a.toNat ∧ a.toNat ≤ 0xFE9F then .ok { s with ppu := oamWrite s.ppu a v }
  else if a = 0xFF00 then .ok { s with joy := joypadWrite s.joy v }
  else if a = 0xFF01 then .ok { s with serout := s.serout ++ [v] }
  else if 0xFF04 ≤ a.toNat ∧ a.toNat ≤ 0xFF07 then .ok { s with timer := timerWrite s.timer a v }
  else if a = 0xFF0F then .ok { s with ifr := v }
  else if isPpuReg a then .ok (ppuRegWrite a v s)
  else if 0xFF80 ≤ a.toNat ∧ a.toNat ≤ 0xFFFE then .ok { s with hram := s.hram.write (a.toNat - 0xFF80) v }
  else if a = 0xFFFF then .ok { s with ie := v }
  else .ok s

end Sys2Proof.Machine
end

