-- ==== Sys2Proof/Machine/Flags.lean ====
section
/-! DEFINITION. The flag register's layout and every result-and-flags computation (10_state.md R32; 41_alu.md R231 to
R254; 43_cb_prefix.md R291 to R301). Arithmetic is on exact integers and then narrowed (00_scope.md R8). -/

namespace Sys2Proof.Machine

/-- The four flags (R32). -/
structure Flags where
  z : Bool
  n : Bool
  h : Bool
  c : Bool
deriving DecidableEq, Repr

/-- The flags of an F byte: bit 7 Z, bit 6 N, bit 5 H, bit 4 C (R32). -/
def Flags.ofByte (f : Byte) : Flags :=
  { z := f.getLsbD 7, n := f.getLsbD 6, h := f.getLsbD 5, c := f.getLsbD 4 }

/-- The F byte of four flags: bits 3..0 are zero (R32). -/
def Flags.toByte (g : Flags) : Byte :=
  BitVec.ofBool g.z ++ BitVec.ofBool g.n ++ BitVec.ofBool g.h ++ BitVec.ofBool g.c ++ 0#4

/-- v & 0x0F as a number. -/
def lowNibble (v : Byte) : Nat := (v &&& 0x0F).toNat

/-- A + s + c with its flags: ADD with c = 0 and ADC (R231, R232). -/
def addWith (a s : Byte) (c : Bool) : Byte × Flags :=
  let t := a.toNat + s.toNat + c.toNat
  (BitVec.ofNat 8 t,
   { z := decide (t % 256 = 0), n := false, h := decide (lowNibble a + lowNibble s + c.toNat > 0x0F),
     c := decide (t > 0xFF) })

/-- A - s - c with its flags: SUB and CP with c = 0, and SBC (R233, R234, R238). -/
def subWith (a s : Byte) (c : Bool) : Byte × Flags :=
  let t : Int := (a.toNat : Int) - s.toNat - c.toNat
  (BitVec.ofInt 8 t,
   { z := decide (t % 256 = 0), n := true, h := decide (lowNibble a < lowNibble s + c.toNat),
     c := decide (a.toNat < s.toNat + c.toNat) })

/-- The flags of AND, OR and XOR: H is 1 for AND only (R235, R236, R237). -/
def logicFlags (r : Byte) (h : Bool) : Flags := { z := decide (r = 0), n := false, h := h, c := false }

/-- The result of INC on a byte (R239, R241). -/
def inc8 (v : Byte) : Byte := BitVec.ofNat 8 (v.toNat + 1)

/-- The flags of INC on the byte `v`; C is kept (R239). -/
def incFlags (g : Flags) (v : Byte) : Flags :=
  { z := decide (inc8 v = 0), n := false, h := decide (lowNibble v = 0x0F), c := g.c }

/-- The result of DEC on a byte (R240, R242). -/
def dec8 (v : Byte) : Byte := BitVec.ofInt 8 ((v.toNat : Int) - 1)

/-- The flags of DEC on the byte `v`; C is kept (R240). -/
def decFlags (g : Flags) (v : Byte) : Flags :=
  { z := decide (dec8 v = 0), n := true, h := decide (lowNibble v = 0x00), c := g.c }

/-- HL + v with its flags: carries out of bits 11 and 15, Z kept (R245). -/
def add16 (g : Flags) (hl v : Word) : Word × Flags :=
  let t := hl.toNat + v.toNat
  (BitVec.ofNat 16 t,
   { z := g.z, n := false, h := decide ((hl &&& 0x0FFF).toNat + (v &&& 0x0FFF).toNat > 0x0FFF),
     c := decide (t > 0xFFFF) })

/-- SP + e with its flags, for ADD SP,e and LD HL,SP+e: H and C over the low byte, e read unsigned there (R223, R246). -/
def addSpE (sp : Word) (u : Byte) : Word × Flags :=
  (sp + sext16 u,
   { z := false, n := false, h := decide ((sp &&& 0x0F).toNat + lowNibble u > 0x0F),
     c := decide ((sp &&& 0xFF).toNat + u.toNat > 0xFF) })

/-- DAA on A (R247). -/
def daa (a : Byte) (g : Flags) : Byte × Flags :=
  let high := g.c || (!g.n && decide (a.toNat > 0x99))
  let low := g.h || (!g.n && decide (lowNibble a > 0x09))
  let corr : Int := (if high then 0x60 else 0) + (if low then 0x06 else 0)
  let r := BitVec.ofInt 8 (if g.n then (a.toNat : Int) - corr else (a.toNat : Int) + corr)
  (r, { z := decide (r = 0), n := g.n, h := false, c := high })

/-- CPL's flags (R248). -/
def cplFlags (g : Flags) : Flags := { g with n := true, h := true }

/-- SCF's flags (R249). -/
def scfFlags (g : Flags) : Flags := { g with n := false, h := false, c := true }

/-- CCF's flags (R250). -/
def ccfFlags (g : Flags) : Flags := { g with n := false, h := false, c := !g.c }

/-- Rotate left circular: the result and the carry (R251, R291). -/
def rotLC (v : Byte) : Byte × Bool := ((v <<< 1) ||| (BitVec.ofBool (v.getLsbD 7)).setWidth 8, v.getLsbD 7)

/-- Rotate right circular (R252, R292). -/
def rotRC (v : Byte) : Byte × Bool := ((v >>> 1) ||| ((BitVec.ofBool (v.getLsbD 0)).setWidth 8 <<< 7), v.getLsbD 0)

/-- Rotate left through carry (R253, R293). -/
def rotL (v : Byte) (c : Bool) : Byte × Bool := ((v <<< 1) ||| (BitVec.ofBool c).setWidth 8, v.getLsbD 7)

/-- Rotate right through carry (R254, R294). -/
def rotR (v : Byte) (c : Bool) : Byte × Bool := ((v >>> 1) ||| ((BitVec.ofBool c).setWidth 8 <<< 7), v.getLsbD 0)

/-- Shift left arithmetic (R295). -/
def shiftLA (v : Byte) : Byte × Bool := (v <<< 1, v.getLsbD 7)

/-- Shift right arithmetic: bit 7 is kept (R296). -/
def shiftRA (v : Byte) : Byte × Bool := ((v >>> 1) ||| (v &&& 0x80), v.getLsbD 0)

/-- Swap nibbles; the carry is 0 (R297). -/
def swapNibbles (v : Byte) : Byte × Bool := ((v <<< 4) ||| (v >>> 4), false)

/-- Shift right logical (R298). -/
def shiftRL (v : Byte) : Byte × Bool := (v >>> 1, v.getLsbD 0)

/-- The flags of the accumulator rotates: Z = 0 always (R251 to R254). -/
def accRotFlags (c : Bool) : Flags := { z := false, n := false, h := false, c := c }

/-- The flags of the 0xCB rotates, shifts and swap (R291 to R298). -/
def cbRotFlags (w : Byte) (c : Bool) : Flags := { z := decide (w = 0), n := false, h := false, c := c }

/-- BIT's flags: C is kept (R299). -/
def bitFlags (g : Flags) (v : Byte) (b : BitVec 3) : Flags := { z := !bitOf v b, n := false, h := true, c := g.c }

end Sys2Proof.Machine
end

