-- ==== Sys2Proof/Syntax.lean ====
section
/-! DEFINITION. The instructions of the CORE: one constructor per row of spec/opcode_table.json (those with operand
bytes first, each group in the table's order), and the operand selectors of 30_encoding.md R122 to R126. -/

namespace Sys2Proof

/-- The 8-bit register operands of R122; the memory operand (HL), selector 6, has rows of its own. -/
inductive R8 where
  | b
  | c
  | d
  | e
  | h
  | l
  | a
deriving DecidableEq, Repr

/-- The register pairs `rp` (R123). -/
inductive Rp where
  | bc
  | de
  | hl
  | sp
deriving DecidableEq, Repr

/-- The register pairs `rp2` of PUSH and POP (R123). -/
inductive Rp2 where
  | bc
  | de
  | hl
  | af
deriving DecidableEq, Repr

/-- The conditions (R124). -/
inductive Cond where
  | nz
  | z
  | nc
  | c
deriving DecidableEq, Repr

/-- The 8-bit ALU operations (R125). -/
inductive AluOp where
  | add
  | adc
  | sub
  | sbc
  | and
  | xor
  | or
  | cp
deriving DecidableEq, Repr

/-- The 0xCB rotates and shifts (R126). -/
inductive RotOp where
  | rlc
  | rrc
  | rl
  | rr
  | sla
  | sra
  | swap
  | srl
deriving DecidableEq, Repr

/-- The instructions. `n` is an 8-bit immediate, `e` a displacement byte, `nn` a 16-bit immediate (R127), `u` the
trailing byte of STOP (R129). `cbPrefix` is the prefix byte alone, before its sub-byte is fetched (R290); the
`unused` rows are the eleven bytes of R130. -/
inductive Instr where
  | ldBCnn (nn : Word)
  | ldBn (n : Byte)
  | ldAtNnSP (nn : Word)
  | ldCn (n : Byte)
  | stop (u : Byte)
  | ldDEnn (nn : Word)
  | ldDn (n : Byte)
  | jre (e : Byte)
  | ldEn (n : Byte)
  | jrNZe (e : Byte)
  | ldHLnn (nn : Word)
  | ldHn (n : Byte)
  | jrZe (e : Byte)
  | ldLn (n : Byte)
  | jrNCe (e : Byte)
  | ldSPnn (nn : Word)
  | ldAtHLn (n : Byte)
  | jrCe (e : Byte)
  | ldAn (n : Byte)
  | jpNZnn (nn : Word)
  | jpnn (nn : Word)
  | callNZnn (nn : Word)
  | addAn (n : Byte)
  | jpZnn (nn : Word)
  | callZnn (nn : Word)
  | callnn (nn : Word)
  | adcAn (n : Byte)
  | jpNCnn (nn : Word)
  | callNCnn (nn : Word)
  | subn (n : Byte)
  | jpCnn (nn : Word)
  | callCnn (nn : Word)
  | sbcAn (n : Byte)
  | ldhAtNA (n : Byte)
  | andn (n : Byte)
  | addSPe (e : Byte)
  | ldAtNnA (nn : Word)
  | xorn (n : Byte)
  | ldhAAtN (n : Byte)
  | orn (n : Byte)
  | ldHLSPe (e : Byte)
  | ldAAtNn (nn : Word)
  | cpn (n : Byte)
  | nop
  | ldAtBCA
  | incBC
  | incB
  | decB
  | rlca
  | addHLBC
  | ldAAtBC
  | decBC
  | incC
  | decC
  | rrca
  | ldAtDEA
  | incDE
  | incD
  | decD
  | rla
  | addHLDE
  | ldAAtDE
  | decDE
  | incE
  | decE
  | rra
  | ldAtHLIncA
  | incHL
  | incH
  | decH
  | daa
  | addHLHL
  | ldAAtHLInc
  | decHL
  | incL
  | decL
  | cpl
  | ldAtHLDecA
  | incSP
  | incAtHL
  | decAtHL
  | scf
  | addHLSP
  | ldAAtHLDec
  | decSP
  | incA
  | decA
  | ccf
  | ldBB
  | ldBC
  | ldBD
  | ldBE
  | ldBH
  | ldBL
  | ldBAtHL
  | ldBA
  | ldCB
  | ldCC
  | ldCD
  | ldCE
  | ldCH
  | ldCL
  | ldCAtHL
  | ldCA
  | ldDB
  | ldDC
  | ldDD
  | ldDE
  | ldDH
  | ldDL
  | ldDAtHL
  | ldDA
  | ldEB
  | ldEC
  | ldED
  | ldEE
  | ldEH
  | ldEL
  | ldEAtHL
  | ldEA
  | ldHB
  | ldHC
  | ldHD
  | ldHE
  | ldHH
  | ldHL
  | ldHAtHL
  | ldHA
  | ldLB
  | ldLC
  | ldLD
  | ldLE
  | ldLH
  | ldLL
  | ldLAtHL
  | ldLA
  | ldAtHLB
  | ldAtHLC
  | ldAtHLD
  | ldAtHLE
  | ldAtHLH
  | ldAtHLL
  | halt
  | ldAtHLA
  | ldAB
  | ldAC
  | ldAD
  | ldAE
  | ldAH
  | ldAL
  | ldAAtHL
  | ldAA
  | addAB
  | addAC
  | addAD
  | addAE
  | addAH
  | addAL
  | addAAtHL
  | addAA
  | adcAB
  | adcAC
  | adcAD
  | adcAE
  | adcAH
  | adcAL
  | adcAAtHL
  | adcAA
  | subB
  | subC
  | subD
  | subE
  | subH
  | subL
  | subAtHL
  | subA
  | sbcAB
  | sbcAC
  | sbcAD
  | sbcAE
  | sbcAH
  | sbcAL
  | sbcAAtHL
  | sbcAA
  | andB
  | andC
  | andD
  | andE
  | andH
  | andL
  | andAtHL
  | andA
  | xorB
  | xorC
  | xorD
  | xorE
  | xorH
  | xorL
  | xorAtHL
  | xorA
  | orB
  | orC
  | orD
  | orE
  | orH
  | orL
  | orAtHL
  | orA
  | cpB
  | cpC
  | cpD
  | cpE
  | cpH
  | cpL
  | cpAtHL
  | cpA
  | retNZ
  | popBC
  | pushBC
  | rst00
  | retZ
  | ret
  | cbPrefix
  | rst08
  | retNC
  | popDE
  | unusedD3
  | pushDE
  | rst10
  | retC
  | reti
  | unusedDB
  | unusedDD
  | rst18
  | popHL
  | ldAtCA
  | unusedE3
  | unusedE4
  | pushHL
  | rst20
  | jpHL
  | unusedEB
  | unusedEC
  | unusedED
  | rst28
  | popAF
  | ldAAtC
  | di
  | unusedF4
  | pushAF
  | rst30
  | ldSPHL
  | ei
  | unusedFC
  | unusedFD
  | rst38
  | rlcB
  | rlcC
  | rlcD
  | rlcE
  | rlcH
  | rlcL
  | rlcAtHL
  | rlcA
  | rrcB
  | rrcC
  | rrcD
  | rrcE
  | rrcH
  | rrcL
  | rrcAtHL
  | rrcA
  | rlB
  | rlC
  | rlD
  | rlE
  | rlH
  | rlL
  | rlAtHL
  | rlA
  | rrB
  | rrC
  | rrD
  | rrE
  | rrH
  | rrL
  | rrAtHL
  | rrA
  | slaB
  | slaC
  | slaD
  | slaE
  | slaH
  | slaL
  | slaAtHL
  | slaA
  | sraB
  | sraC
  | sraD
  | sraE
  | sraH
  | sraL
  | sraAtHL
  | sraA
  | swapB
  | swapC
  | swapD
  | swapE
  | swapH
  | swapL
  | swapAtHL
  | swapA
  | srlB
  | srlC
  | srlD
  | srlE
  | srlH
  | srlL
  | srlAtHL
  | srlA
  | bit0B
  | bit0C
  | bit0D
  | bit0E
  | bit0H
  | bit0L
  | bit0AtHL
  | bit0A
  | bit1B
  | bit1C
  | bit1D
  | bit1E
  | bit1H
  | bit1L
  | bit1AtHL
  | bit1A
  | bit2B
  | bit2C
  | bit2D
  | bit2E
  | bit2H
  | bit2L
  | bit2AtHL
  | bit2A
  | bit3B
  | bit3C
  | bit3D
  | bit3E
  | bit3H
  | bit3L
  | bit3AtHL
  | bit3A
  | bit4B
  | bit4C
  | bit4D
  | bit4E
  | bit4H
  | bit4L
  | bit4AtHL
  | bit4A
  | bit5B
  | bit5C
  | bit5D
  | bit5E
  | bit5H
  | bit5L
  | bit5AtHL
  | bit5A
  | bit6B
  | bit6C
  | bit6D
  | bit6E
  | bit6H
  | bit6L
  | bit6AtHL
  | bit6A
  | bit7B
  | bit7C
  | bit7D
  | bit7E
  | bit7H
  | bit7L
  | bit7AtHL
  | bit7A
  | res0B
  | res0C
  | res0D
  | res0E
  | res0H
  | res0L
  | res0AtHL
  | res0A
  | res1B
  | res1C
  | res1D
  | res1E
  | res1H
  | res1L
  | res1AtHL
  | res1A
  | res2B
  | res2C
  | res2D
  | res2E
  | res2H
  | res2L
  | res2AtHL
  | res2A
  | res3B
  | res3C
  | res3D
  | res3E
  | res3H
  | res3L
  | res3AtHL
  | res3A
  | res4B
  | res4C
  | res4D
  | res4E
  | res4H
  | res4L
  | res4AtHL
  | res4A
  | res5B
  | res5C
  | res5D
  | res5E
  | res5H
  | res5L
  | res5AtHL
  | res5A
  | res6B
  | res6C
  | res6D
  | res6E
  | res6H
  | res6L
  | res6AtHL
  | res6A
  | res7B
  | res7C
  | res7D
  | res7E
  | res7H
  | res7L
  | res7AtHL
  | res7A
  | set0B
  | set0C
  | set0D
  | set0E
  | set0H
  | set0L
  | set0AtHL
  | set0A
  | set1B
  | set1C
  | set1D
  | set1E
  | set1H
  | set1L
  | set1AtHL
  | set1A
  | set2B
  | set2C
  | set2D
  | set2E
  | set2H
  | set2L
  | set2AtHL
  | set2A
  | set3B
  | set3C
  | set3D
  | set3E
  | set3H
  | set3L
  | set3AtHL
  | set3A
  | set4B
  | set4C
  | set4D
  | set4E
  | set4H
  | set4L
  | set4AtHL
  | set4A
  | set5B
  | set5C
  | set5D
  | set5E
  | set5H
  | set5L
  | set5AtHL
  | set5A
  | set6B
  | set6C
  | set6D
  | set6E
  | set6H
  | set6L
  | set6AtHL
  | set6A
  | set7B
  | set7C
  | set7D
  | set7E
  | set7H
  | set7L
  | set7AtHL
  | set7A
deriving DecidableEq, Repr

end Sys2Proof
end

