-- ==== Sys2Proof/Machine/Operands.lean ====
section
/-! DEFINITION. Reading and writing the CPU registers by their operand selectors: the one place where a register is read
or written (10_state.md R30 to R36; 30_encoding.md R122 to R124). -/

namespace Sys2Proof.Machine

/-- The 8-bit register r8[k] (R122). -/
def State.reg (s : State) : R8 → Byte
  | .a => s.regs.a
  | .b => s.regs.b
  | .c => s.regs.c
  | .d => s.regs.d
  | .e => s.regs.e
  | .h => s.regs.h
  | .l => s.regs.l

/-- R[r8[k]] <- v (R9). -/
def State.setReg (s : State) (r : R8) (v : Byte) : State :=
  match r with
  | .a => { s with regs := { s.regs with a := v } }
  | .b => { s with regs := { s.regs with b := v } }
  | .c => { s with regs := { s.regs with c := v } }
  | .d => { s with regs := { s.regs with d := v } }
  | .e => { s with regs := { s.regs with e := v } }
  | .h => { s with regs := { s.regs with h := v } }
  | .l => { s with regs := { s.regs with l := v } }

/-- F <- v & 0xF0: the low nibble of F is hardwired to zero (R32). -/
def State.setF (s : State) (v : Byte) : State := { s with regs := { s.regs with f := v &&& 0xF0 } }

/-- The flags F.Z, F.N, F.H, F.C (R9, R32). -/
def State.flags (s : State) : Flags := Flags.ofByte s.regs.f

/-- Writes the four flags; F's low nibble stays zero (R32). -/
def State.setFlags (s : State) (g : Flags) : State := s.setF g.toByte

/-- SP <- v (R33). -/
def State.setSp (s : State) (v : Word) : State := { s with regs := { s.regs with sp := v } }

/-- PC <- v (R34). -/
def State.setPc (s : State) (v : Word) : State := { s with regs := { s.regs with pc := v } }

/-- IME <- b (R35). -/
def State.setIme (s : State) (b : Bool) : State := { s with ime := b }

/-- halted <- b (R36). -/
def State.setHalted (s : State) (b : Bool) : State := { s with halted := b }

/-- cyc <- cyc + n (R37). -/
def State.charge (s : State) (n : Nat) : State := { s with cyc := s.cyc + n }

/-- Holds the fatal error from now on (R38). -/
def State.withFault (s : State) (f : Fault) : State := { s with fault := some f }

/-- BC = B : C (R31). -/
def State.bc (s : State) : Word := word16 s.regs.b s.regs.c

/-- DE = D : E (R31). -/
def State.de (s : State) : Word := word16 s.regs.d s.regs.e

/-- HL = H : L (R31). -/
def State.hl (s : State) : Word := word16 s.regs.h s.regs.l

/-- AF = A : F (R31). -/
def State.af (s : State) : Word := word16 s.regs.a s.regs.f

/-- BC <- v writes both halves (R31). -/
def State.setBc (s : State) (v : Word) : State := { s with regs := { s.regs with b := hiByte v, c := loByte v } }

/-- DE <- v writes both halves (R31). -/
def State.setDe (s : State) (v : Word) : State := { s with regs := { s.regs with d := hiByte v, e := loByte v } }

/-- HL <- v writes both halves (R31). -/
def State.setHl (s : State) (v : Word) : State := { s with regs := { s.regs with h := hiByte v, l := loByte v } }

/-- AF <- v writes both halves, F's low nibble masked to zero (R31, R32, R226). -/
def State.setAf (s : State) (v : Word) : State := (s.setReg .a (hiByte v)).setF (loByte v)

/-- The pair rp[p] (R123). -/
def State.rp (s : State) : Rp → Word
  | .bc => s.bc
  | .de => s.de
  | .hl => s.hl
  | .sp => s.regs.sp

/-- R[rp[p]] <- v (R123). -/
def State.setRp (s : State) (p : Rp) (v : Word) : State :=
  match p with
  | .bc => s.setBc v
  | .de => s.setDe v
  | .hl => s.setHl v
  | .sp => s.setSp v

/-- The pair rp2[p] (R123). -/
def State.rp2 (s : State) : Rp2 → Word
  | .bc => s.bc
  | .de => s.de
  | .hl => s.hl
  | .af => s.af

/-- R[rp2[p]] <- v (R123). -/
def State.setRp2 (s : State) (p : Rp2) (v : Word) : State :=
  match p with
  | .bc => s.setBc v
  | .de => s.setDe v
  | .hl => s.setHl v
  | .af => s.setAf v

/-- cond(cc) (42_control.md R270): reads F only. -/
def State.cond (s : State) : Cond → Bool
  | .nz => !s.flags.z
  | .z => s.flags.z
  | .nc => !s.flags.c
  | .c => s.flags.c

end Sys2Proof.Machine
end

