-- ==== Sys2Proof/Machine/Ops.lean ====
section
/-! DEFINITION. The named operations of an instruction: cycle charges, bus accesses, OAM-DMA, fetching, the stack, raising
a fatal error, and taking and returning from an interrupt (00_scope.md R10, R11; 20_memory.md R71 to R82, R98;
60_exceptions.md R400, R401, R410, R414). -/

namespace Sys2Proof.Machine

/-- An operation on the state that gives a value or raises a fatal error; the error keeps the state reached (R11). -/
abbrev M (α : Type) := EStateM Fault State α

/-- What an instruction or a step answers. -/
abbrev Answer := Host.Outcome State Fault Refusal

/-- The outcome of an operation. A raised error is a NEXT state that holds it (R401, log 1): the state is the one
reached at the point of the fault, with `fault` set. -/
def answer (m : M Unit) (s : State) : Answer :=
  match m s with
  | .ok _ s' => .next s'
  | .error f s' => .next (s'.withFault f)

/-- raise <Error>(info) (R11). -/
def raise {α : Type} (f : Fault) : M α := throw f

/-- An operation that only changes the state. -/
def update (g : State → State) : M Unit := modify g

/-- The value of a function of the state. -/
def view {α : Type} (g : State → α) : M α := do return g (← get)

/-- Tick(): 4 cycles of internal CPU time, no bus access (R10). -/
def tick : M Unit := update (·.charge 4)

/-- Lifts a bus access that may raise an error. -/
def orRaise {α : Type} (x : Except Fault α) : M α :=
  match x with
  | .ok v => pure v
  | .error f => raise f

/-- MemRead(a): charges 4 cycles, then one bus read (R10, R71, R73). -/
def memRead (a : Word) : M Byte := do
  tick
  orRaise (← view (busRead · a))

/-- MemWrite(a, v) for any address but 0xFF46: charges 4 cycles, then one bus write (R10, R71, R74). -/
def memStore (a : Word) (v : Byte) : M Unit := do
  tick
  set (← orRaise (← view (busStore · a v)))

/-- The bytes i, i + 1, .., of which `n` are left, of the OAM-DMA copy (R81): a bus read and a bus write each. -/
def oamDmaFrom (page : Byte) : (n i : Nat) → M Unit
  | 0, _ => pure ()
  | n + 1, i => do
    let b ← memRead (word16 page 0 + BitVec.ofNat 16 i)
    memStore (0xFE00 + BitVec.ofNat 16 i) b
    oamDmaFrom page n (i + 1)

/-- OamDma(v) (R80 to R82): a page outside 0x80 to 0xDF is a ConfigError before any byte is copied. -/
def oamDma (page : Byte) : M Unit :=
  if page.toNat < 0x80 ∨ 0xDF < page.toNat then raise (.configError page) else oamDmaFrom page 160 0

/-- MemWrite(a, v) (R10, R74): for 0xFF46 the trigger's 4 cycles are charged before the copy's own accesses. -/
def memWrite (a : Word) (v : Byte) : M Unit :=
  if a = 0xFF46 then do
    tick
    oamDma v
  else memStore a v

/-- Fetch8(): MemRead(PC), then PC <- PC + 1 (R10, R34). -/
def fetch8 : M Byte := do
  let v ← memRead (← view (·.regs.pc))
  update (fun s => s.setPc (s.regs.pc + 1))
  return v

/-- Push16(v) (R98): the high byte at SP - 1, then the low byte at SP - 2. DEDUCED (log 15): with SP = 0xFF47 that is a
write of 0xFF46, an OAM-DMA or a ConfigError, then one of 0xFF45, LYC; R276's corner case, a palette register, is not. -/
def push16 (v : Word) : M Unit := do
  update (fun s => s.setSp (s.regs.sp - 1))
  memWrite (← view (·.regs.sp)) (hiByte v)
  update (fun s => s.setSp (s.regs.sp - 1))
  memWrite (← view (·.regs.sp)) (loByte v)

/-- Pop16() (R98): the low byte at SP, then the high byte at SP + 1. -/
def pop16 : M Word := do
  let lo ← memRead (← view (·.regs.sp))
  update (fun s => s.setSp (s.regs.sp + 1))
  let hi ← memRead (← view (·.regs.sp))
  update (fun s => s.setSp (s.regs.sp + 1))
  return word16 hi lo

/-- TAKING AN INTERRUPT, Dispatch(i) (R410): IF's bit, IME and halted are cleared, two ticks, PC is pushed, and PC goes
to the vector. Only PC is saved. -/
def dispatch (i : Interrupt) : M Unit := do
  update (fun s => ({ s with ifr := s.ifr &&& ~~~i.mask }.setIme false).setHalted false)
  tick
  tick
  push16 (← view (·.regs.pc))
  update (·.setPc i.vector)

/-- RETURNING FROM AN INTERRUPT (R280, R414): PC is popped and IME set; nothing else is restored. -/
def returnFromInterrupt : M Unit := do
  let a ← pop16
  tick
  update (fun s => (s.setPc a).setIme true)

/-- raise DecodeError(addr, byte) for an instruction of which `fetched` bytes have been fetched: addr is the address of
its first byte, PC - fetched modulo 2^16 (R312, R315, R400). -/
def raiseDecode {α : Type} (fetched : Word) (byte : Byte) : M α := do
  raise (.decodeError (← view (·.regs.pc - fetched)) byte)

end Sys2Proof.Machine
end

