-- ==== Sys2Proof/Machine/Alu.lean ====
section
/-! DEFINITION. Arithmetic, logic, increment and decrement, decimal adjust, flag operations and the accumulator rotates
(41_alu.md R230 to R254). A meaning runs after all bytes of its instruction have been fetched. -/

namespace Sys2Proof.Machine

/-- A <- r and the flags `g`. -/
def State.setResult (s : State) (r : Byte × Flags) : State := (s.setReg .a r.1).setFlags r.2

/-- A <- r with the flags of a logical operation. -/
def State.setLogic (s : State) (r : Byte) (h : Bool) : State := s.setResult (r, logicFlags r h)

/-- The ALU operation `op` on A and the source `v` (R231 to R238). -/
def aluApply (op : AluOp) (v : Byte) (s : State) : State :=
  match op with
  | .add => s.setResult (addWith s.regs.a v false)
  | .adc => s.setResult (addWith s.regs.a v s.flags.c)
  | .sub => s.setResult (subWith s.regs.a v false)
  | .sbc => s.setResult (subWith s.regs.a v s.flags.c)
  | .and => s.setLogic (s.regs.a &&& v) true
  | .xor => s.setLogic (s.regs.a ^^^ v) false
  | .or => s.setLogic (s.regs.a ||| v) false
  | .cp => s.setFlags (subWith s.regs.a v false).2

/-- The source is a register (R230). -/
def aluReg (op : AluOp) (r : R8) : M Unit := update (fun s => aluApply op (s.reg r) s)

/-- The source is the byte at HL (R230). -/
def aluMem (op : AluOp) : M Unit := do
  let v ← memRead (← view State.hl)
  update (aluApply op v)

/-- The source is the immediate (R230). -/
def aluImm (op : AluOp) (n : Byte) : M Unit := update (aluApply op n)

/-- INC r (R239). -/
def incReg (r : R8) : M Unit := update (fun s => (s.setReg r (inc8 (s.reg r))).setFlags (incFlags s.flags (s.reg r)))

/-- DEC r (R240). -/
def decReg (r : R8) : M Unit := update (fun s => (s.setReg r (dec8 (s.reg r))).setFlags (decFlags s.flags (s.reg r)))

/-- INC (HL) (R241): the read, then the write. -/
def incMem : M Unit := do
  let v ← memRead (← view State.hl)
  memWrite (← view State.hl) (inc8 v)
  update (fun s => s.setFlags (incFlags s.flags v))

/-- DEC (HL) (R242). -/
def decMem : M Unit := do
  let v ← memRead (← view State.hl)
  memWrite (← view State.hl) (dec8 v)
  update (fun s => s.setFlags (decFlags s.flags v))

/-- R[rp] <- R[rp] + delta modulo 2^16, no flag (R243, R244). -/
def stepPair (p : Rp) (delta : Word) : M Unit := do
  tick
  update (fun s => s.setRp p (s.rp p + delta))

/-- ADD HL,rr (R245). -/
def addHlPair (p : Rp) : M Unit := do
  tick
  update (fun s => (s.setHl (add16 s.flags s.hl (s.rp p)).1).setFlags (add16 s.flags s.hl (s.rp p)).2)

/-- ADD SP,e (R246). -/
def addSpImm (u : Byte) : M Unit := do
  tick
  tick
  update (fun s => (s.setSp (addSpE s.regs.sp u).1).setFlags (addSpE s.regs.sp u).2)

/-- DAA (R247). -/
def daaA : M Unit := update (fun s => s.setResult (daa s.regs.a s.flags))

/-- CPL (R248). -/
def cplA : M Unit := update (fun s => s.setResult (s.regs.a ^^^ 0xFF, cplFlags s.flags))

/-- SCF and CCF (R249, R250). -/
def flagOp (g : Flags → Flags) : M Unit := update (fun s => s.setFlags (g s.flags))

/-- An accumulator rotate with the result and carry `f A F.C` (R251 to R254). -/
def rotAcc (f : Byte → Bool → Byte × Bool) : M Unit :=
  update (fun s => s.setResult ((f s.regs.a s.flags.c).1, accRotFlags (f s.regs.a s.flags.c).2))

/-- INC BC (R243). -/
def execIncBC (s : State) : Answer := answer (stepPair .bc 1) s

/-- INC B (R239). -/
def execIncB (s : State) : Answer := answer (incReg .b) s

/-- DEC B (R240). -/
def execDecB (s : State) : Answer := answer (decReg .b) s

/-- RLCA (R251). -/
def execRlca (s : State) : Answer := answer (rotAcc (fun v _ => rotLC v)) s

/-- ADD HL,BC (R245). -/
def execAddHLBC (s : State) : Answer := answer (addHlPair .bc) s

/-- DEC BC (R244). -/
def execDecBC (s : State) : Answer := answer (stepPair .bc (-1)) s

/-- INC C (R239). -/
def execIncC (s : State) : Answer := answer (incReg .c) s

/-- DEC C (R240). -/
def execDecC (s : State) : Answer := answer (decReg .c) s

/-- RRCA (R252). -/
def execRrca (s : State) : Answer := answer (rotAcc (fun v _ => rotRC v)) s

/-- INC DE (R243). -/
def execIncDE (s : State) : Answer := answer (stepPair .de 1) s

/-- INC D (R239). -/
def execIncD (s : State) : Answer := answer (incReg .d) s

/-- DEC D (R240). -/
def execDecD (s : State) : Answer := answer (decReg .d) s

/-- RLA (R253). -/
def execRla (s : State) : Answer := answer (rotAcc rotL) s

/-- ADD HL,DE (R245). -/
def execAddHLDE (s : State) : Answer := answer (addHlPair .de) s

/-- DEC DE (R244). -/
def execDecDE (s : State) : Answer := answer (stepPair .de (-1)) s

/-- INC E (R239). -/
def execIncE (s : State) : Answer := answer (incReg .e) s

/-- DEC E (R240). -/
def execDecE (s : State) : Answer := answer (decReg .e) s

/-- RRA (R254). -/
def execRra (s : State) : Answer := answer (rotAcc rotR) s

/-- INC HL (R243). -/
def execIncHL (s : State) : Answer := answer (stepPair .hl 1) s

/-- INC H (R239). -/
def execIncH (s : State) : Answer := answer (incReg .h) s

/-- DEC H (R240). -/
def execDecH (s : State) : Answer := answer (decReg .h) s

/-- DAA (R247). -/
def execDaa (s : State) : Answer := answer (daaA) s

/-- ADD HL,HL (R245). -/
def execAddHLHL (s : State) : Answer := answer (addHlPair .hl) s

/-- DEC HL (R244). -/
def execDecHL (s : State) : Answer := answer (stepPair .hl (-1)) s

/-- INC L (R239). -/
def execIncL (s : State) : Answer := answer (incReg .l) s

/-- DEC L (R240). -/
def execDecL (s : State) : Answer := answer (decReg .l) s

/-- CPL (R248). -/
def execCpl (s : State) : Answer := answer (cplA) s

/-- INC SP (R243). -/
def execIncSP (s : State) : Answer := answer (stepPair .sp 1) s

/-- INC (HL) (R241). -/
def execIncAtHL (s : State) : Answer := answer (incMem) s

/-- DEC (HL) (R242). -/
def execDecAtHL (s : State) : Answer := answer (decMem) s

/-- SCF (R249). -/
def execScf (s : State) : Answer := answer (flagOp scfFlags) s

/-- ADD HL,SP (R245). -/
def execAddHLSP (s : State) : Answer := answer (addHlPair .sp) s

/-- DEC SP (R244). -/
def execDecSP (s : State) : Answer := answer (stepPair .sp (-1)) s

/-- INC A (R239). -/
def execIncA (s : State) : Answer := answer (incReg .a) s

/-- DEC A (R240). -/
def execDecA (s : State) : Answer := answer (decReg .a) s

/-- CCF (R250). -/
def execCcf (s : State) : Answer := answer (flagOp ccfFlags) s

/-- ADD A,B (R231). -/
def execAddAB (s : State) : Answer := answer (aluReg .add .b) s

/-- ADD A,C (R231). -/
def execAddAC (s : State) : Answer := answer (aluReg .add .c) s

/-- ADD A,D (R231). -/
def execAddAD (s : State) : Answer := answer (aluReg .add .d) s

/-- ADD A,E (R231). -/
def execAddAE (s : State) : Answer := answer (aluReg .add .e) s

/-- ADD A,H (R231). -/
def execAddAH (s : State) : Answer := answer (aluReg .add .h) s

/-- ADD A,L (R231). -/
def execAddAL (s : State) : Answer := answer (aluReg .add .l) s

/-- ADD A,(HL) (R231). -/
def execAddAAtHL (s : State) : Answer := answer (aluMem .add) s

/-- ADD A,A (R231). -/
def execAddAA (s : State) : Answer := answer (aluReg .add .a) s

/-- ADC A,B (R232). -/
def execAdcAB (s : State) : Answer := answer (aluReg .adc .b) s

/-- ADC A,C (R232). -/
def execAdcAC (s : State) : Answer := answer (aluReg .adc .c) s

/-- ADC A,D (R232). -/
def execAdcAD (s : State) : Answer := answer (aluReg .adc .d) s

/-- ADC A,E (R232). -/
def execAdcAE (s : State) : Answer := answer (aluReg .adc .e) s

/-- ADC A,H (R232). -/
def execAdcAH (s : State) : Answer := answer (aluReg .adc .h) s

/-- ADC A,L (R232). -/
def execAdcAL (s : State) : Answer := answer (aluReg .adc .l) s

/-- ADC A,(HL) (R232). -/
def execAdcAAtHL (s : State) : Answer := answer (aluMem .adc) s

/-- ADC A,A (R232). -/
def execAdcAA (s : State) : Answer := answer (aluReg .adc .a) s

/-- SUB B (R233). -/
def execSubB (s : State) : Answer := answer (aluReg .sub .b) s

/-- SUB C (R233). -/
def execSubC (s : State) : Answer := answer (aluReg .sub .c) s

/-- SUB D (R233). -/
def execSubD (s : State) : Answer := answer (aluReg .sub .d) s

/-- SUB E (R233). -/
def execSubE (s : State) : Answer := answer (aluReg .sub .e) s

/-- SUB H (R233). -/
def execSubH (s : State) : Answer := answer (aluReg .sub .h) s

/-- SUB L (R233). -/
def execSubL (s : State) : Answer := answer (aluReg .sub .l) s

/-- SUB (HL) (R233). -/
def execSubAtHL (s : State) : Answer := answer (aluMem .sub) s

/-- SUB A (R233). -/
def execSubA (s : State) : Answer := answer (aluReg .sub .a) s

/-- SBC A,B (R234). -/
def execSbcAB (s : State) : Answer := answer (aluReg .sbc .b) s

/-- SBC A,C (R234). -/
def execSbcAC (s : State) : Answer := answer (aluReg .sbc .c) s

/-- SBC A,D (R234). -/
def execSbcAD (s : State) : Answer := answer (aluReg .sbc .d) s

/-- SBC A,E (R234). -/
def execSbcAE (s : State) : Answer := answer (aluReg .sbc .e) s

/-- SBC A,H (R234). -/
def execSbcAH (s : State) : Answer := answer (aluReg .sbc .h) s

/-- SBC A,L (R234). -/
def execSbcAL (s : State) : Answer := answer (aluReg .sbc .l) s

/-- SBC A,(HL) (R234). -/
def execSbcAAtHL (s : State) : Answer := answer (aluMem .sbc) s

/-- SBC A,A (R234). -/
def execSbcAA (s : State) : Answer := answer (aluReg .sbc .a) s

/-- AND B (R235). -/
def execAndB (s : State) : Answer := answer (aluReg .and .b) s

/-- AND C (R235). -/
def execAndC (s : State) : Answer := answer (aluReg .and .c) s

/-- AND D (R235). -/
def execAndD (s : State) : Answer := answer (aluReg .and .d) s

/-- AND E (R235). -/
def execAndE (s : State) : Answer := answer (aluReg .and .e) s

/-- AND H (R235). -/
def execAndH (s : State) : Answer := answer (aluReg .and .h) s

/-- AND L (R235). -/
def execAndL (s : State) : Answer := answer (aluReg .and .l) s

/-- AND (HL) (R235). -/
def execAndAtHL (s : State) : Answer := answer (aluMem .and) s

/-- AND A (R235). -/
def execAndA (s : State) : Answer := answer (aluReg .and .a) s

/-- XOR B (R236). -/
def execXorB (s : State) : Answer := answer (aluReg .xor .b) s

/-- XOR C (R236). -/
def execXorC (s : State) : Answer := answer (aluReg .xor .c) s

/-- XOR D (R236). -/
def execXorD (s : State) : Answer := answer (aluReg .xor .d) s

/-- XOR E (R236). -/
def execXorE (s : State) : Answer := answer (aluReg .xor .e) s

/-- XOR H (R236). -/
def execXorH (s : State) : Answer := answer (aluReg .xor .h) s

/-- XOR L (R236). -/
def execXorL (s : State) : Answer := answer (aluReg .xor .l) s

/-- XOR (HL) (R236). -/
def execXorAtHL (s : State) : Answer := answer (aluMem .xor) s

/-- XOR A (R236). -/
def execXorA (s : State) : Answer := answer (aluReg .xor .a) s

/-- OR B (R237). -/
def execOrB (s : State) : Answer := answer (aluReg .or .b) s

/-- OR C (R237). -/
def execOrC (s : State) : Answer := answer (aluReg .or .c) s

/-- OR D (R237). -/
def execOrD (s : State) : Answer := answer (aluReg .or .d) s

/-- OR E (R237). -/
def execOrE (s : State) : Answer := answer (aluReg .or .e) s

/-- OR H (R237). -/
def execOrH (s : State) : Answer := answer (aluReg .or .h) s

/-- OR L (R237). -/
def execOrL (s : State) : Answer := answer (aluReg .or .l) s

/-- OR (HL) (R237). -/
def execOrAtHL (s : State) : Answer := answer (aluMem .or) s

/-- OR A (R237). -/
def execOrA (s : State) : Answer := answer (aluReg .or .a) s

/-- CP B (R238). -/
def execCpB (s : State) : Answer := answer (aluReg .cp .b) s

/-- CP C (R238). -/
def execCpC (s : State) : Answer := answer (aluReg .cp .c) s

/-- CP D (R238). -/
def execCpD (s : State) : Answer := answer (aluReg .cp .d) s

/-- CP E (R238). -/
def execCpE (s : State) : Answer := answer (aluReg .cp .e) s

/-- CP H (R238). -/
def execCpH (s : State) : Answer := answer (aluReg .cp .h) s

/-- CP L (R238). -/
def execCpL (s : State) : Answer := answer (aluReg .cp .l) s

/-- CP (HL) (R238). -/
def execCpAtHL (s : State) : Answer := answer (aluMem .cp) s

/-- CP A (R238). -/
def execCpA (s : State) : Answer := answer (aluReg .cp .a) s

/-- ADD A,n (R231). -/
def execAddAn (n : Byte) (s : State) : Answer := answer (aluImm .add n) s

/-- ADC A,n (R232). -/
def execAdcAn (n : Byte) (s : State) : Answer := answer (aluImm .adc n) s

/-- SUB n (R233). -/
def execSubn (n : Byte) (s : State) : Answer := answer (aluImm .sub n) s

/-- SBC A,n (R234). -/
def execSbcAn (n : Byte) (s : State) : Answer := answer (aluImm .sbc n) s

/-- AND n (R235). -/
def execAndn (n : Byte) (s : State) : Answer := answer (aluImm .and n) s

/-- ADD SP,e (R246). -/
def execAddSPe (e : Byte) (s : State) : Answer := answer (addSpImm e) s

/-- XOR n (R236). -/
def execXorn (n : Byte) (s : State) : Answer := answer (aluImm .xor n) s

/-- OR n (R237). -/
def execOrn (n : Byte) (s : State) : Answer := answer (aluImm .or n) s

/-- CP n (R238). -/
def execCpn (n : Byte) (s : State) : Answer := answer (aluImm .cp n) s

end Sys2Proof.Machine
end

