-- ==== Sys2Proof/Decode.lean ====
section
/-! DEFINITION. The decoder, total on any bytes and rejecting by name (30_encoding.md R120 to R134, R137), and after it the
encoder, written from the words of spec/opcode_table.json. The decoder reads the fields of the bytes; the encoder
lists the bytes: the two are independent, and an obligation states that they agree. -/

namespace Sys2Proof

/-! The rows of each family by their operand selectors. -/

/-- LD r,r' (R201). -/
def Row.ldRR : R8 → R8 → Instr
  | .b, .b => .ldBB
  | .b, .c => .ldBC
  | .b, .d => .ldBD
  | .b, .e => .ldBE
  | .b, .h => .ldBH
  | .b, .l => .ldBL
  | .b, .a => .ldBA
  | .c, .b => .ldCB
  | .c, .c => .ldCC
  | .c, .d => .ldCD
  | .c, .e => .ldCE
  | .c, .h => .ldCH
  | .c, .l => .ldCL
  | .c, .a => .ldCA
  | .d, .b => .ldDB
  | .d, .c => .ldDC
  | .d, .d => .ldDD
  | .d, .e => .ldDE
  | .d, .h => .ldDH
  | .d, .l => .ldDL
  | .d, .a => .ldDA
  | .e, .b => .ldEB
  | .e, .c => .ldEC
  | .e, .d => .ldED
  | .e, .e => .ldEE
  | .e, .h => .ldEH
  | .e, .l => .ldEL
  | .e, .a => .ldEA
  | .h, .b => .ldHB
  | .h, .c => .ldHC
  | .h, .d => .ldHD
  | .h, .e => .ldHE
  | .h, .h => .ldHH
  | .h, .l => .ldHL
  | .h, .a => .ldHA
  | .l, .b => .ldLB
  | .l, .c => .ldLC
  | .l, .d => .ldLD
  | .l, .e => .ldLE
  | .l, .h => .ldLH
  | .l, .l => .ldLL
  | .l, .a => .ldLA
  | .a, .b => .ldAB
  | .a, .c => .ldAC
  | .a, .d => .ldAD
  | .a, .e => .ldAE
  | .a, .h => .ldAH
  | .a, .l => .ldAL
  | .a, .a => .ldAA

/-- LD r,n (R202). -/
def Row.ldRN : R8 → Byte → Instr
  | .b, n => .ldBn n
  | .c, n => .ldCn n
  | .d, n => .ldDn n
  | .e, n => .ldEn n
  | .h, n => .ldHn n
  | .l, n => .ldLn n
  | .a, n => .ldAn n

/-- LD r,(HL) (R203). -/
def Row.ldRHl : R8 → Instr
  | .b => .ldBAtHL
  | .c => .ldCAtHL
  | .d => .ldDAtHL
  | .e => .ldEAtHL
  | .h => .ldHAtHL
  | .l => .ldLAtHL
  | .a => .ldAAtHL

/-- LD (HL),r (R204). -/
def Row.ldHlR : R8 → Instr
  | .b => .ldAtHLB
  | .c => .ldAtHLC
  | .d => .ldAtHLD
  | .e => .ldAtHLE
  | .h => .ldAtHLH
  | .l => .ldAtHLL
  | .a => .ldAtHLA

/-- LD rr,nn (R220). -/
def Row.ldRpNn : Rp → Word → Instr
  | .bc, nn => .ldBCnn nn
  | .de, nn => .ldDEnn nn
  | .hl, nn => .ldHLnn nn
  | .sp, nn => .ldSPnn nn

/-- PUSH qq (R224). -/
def Row.push : Rp2 → Instr
  | .bc => .pushBC
  | .de => .pushDE
  | .hl => .pushHL
  | .af => .pushAF

/-- POP qq (R225, R226). -/
def Row.pop : Rp2 → Instr
  | .bc => .popBC
  | .de => .popDE
  | .hl => .popHL
  | .af => .popAF

/-- The ALU operations on a register (R230). -/
def Row.aluR : AluOp → R8 → Instr
  | .add, .b => .addAB
  | .add, .c => .addAC
  | .add, .d => .addAD
  | .add, .e => .addAE
  | .add, .h => .addAH
  | .add, .l => .addAL
  | .add, .a => .addAA
  | .adc, .b => .adcAB
  | .adc, .c => .adcAC
  | .adc, .d => .adcAD
  | .adc, .e => .adcAE
  | .adc, .h => .adcAH
  | .adc, .l => .adcAL
  | .adc, .a => .adcAA
  | .sub, .b => .subB
  | .sub, .c => .subC
  | .sub, .d => .subD
  | .sub, .e => .subE
  | .sub, .h => .subH
  | .sub, .l => .subL
  | .sub, .a => .subA
  | .sbc, .b => .sbcAB
  | .sbc, .c => .sbcAC
  | .sbc, .d => .sbcAD
  | .sbc, .e => .sbcAE
  | .sbc, .h => .sbcAH
  | .sbc, .l => .sbcAL
  | .sbc, .a => .sbcAA
  | .and, .b => .andB
  | .and, .c => .andC
  | .and, .d => .andD
  | .and, .e => .andE
  | .and, .h => .andH
  | .and, .l => .andL
  | .and, .a => .andA
  | .xor, .b => .xorB
  | .xor, .c => .xorC
  | .xor, .d => .xorD
  | .xor, .e => .xorE
  | .xor, .h => .xorH
  | .xor, .l => .xorL
  | .xor, .a => .xorA
  | .or, .b => .orB
  | .or, .c => .orC
  | .or, .d => .orD
  | .or, .e => .orE
  | .or, .h => .orH
  | .or, .l => .orL
  | .or, .a => .orA
  | .cp, .b => .cpB
  | .cp, .c => .cpC
  | .cp, .d => .cpD
  | .cp, .e => .cpE
  | .cp, .h => .cpH
  | .cp, .l => .cpL
  | .cp, .a => .cpA

/-- The ALU operations on (HL) (R230). -/
def Row.aluHl : AluOp → Instr
  | .add => .addAAtHL
  | .adc => .adcAAtHL
  | .sub => .subAtHL
  | .sbc => .sbcAAtHL
  | .and => .andAtHL
  | .xor => .xorAtHL
  | .or => .orAtHL
  | .cp => .cpAtHL

/-- The ALU operations on an immediate (R230). -/
def Row.aluN : AluOp → Byte → Instr
  | .add, n => .addAn n
  | .adc, n => .adcAn n
  | .sub, n => .subn n
  | .sbc, n => .sbcAn n
  | .and, n => .andn n
  | .xor, n => .xorn n
  | .or, n => .orn n
  | .cp, n => .cpn n

/-- INC r (R239). -/
def Row.incR : R8 → Instr
  | .b => .incB
  | .c => .incC
  | .d => .incD
  | .e => .incE
  | .h => .incH
  | .l => .incL
  | .a => .incA

/-- DEC r (R240). -/
def Row.decR : R8 → Instr
  | .b => .decB
  | .c => .decC
  | .d => .decD
  | .e => .decE
  | .h => .decH
  | .l => .decL
  | .a => .decA

/-- INC rr (R243). -/
def Row.incRp : Rp → Instr
  | .bc => .incBC
  | .de => .incDE
  | .hl => .incHL
  | .sp => .incSP

/-- DEC rr (R244). -/
def Row.decRp : Rp → Instr
  | .bc => .decBC
  | .de => .decDE
  | .hl => .decHL
  | .sp => .decSP

/-- ADD HL,rr (R245). -/
def Row.addHl : Rp → Instr
  | .bc => .addHLBC
  | .de => .addHLDE
  | .hl => .addHLHL
  | .sp => .addHLSP

/-- JP cc,nn (R272). -/
def Row.jpCc : Cond → Word → Instr
  | .nz, nn => .jpNZnn nn
  | .z, nn => .jpZnn nn
  | .nc, nn => .jpNCnn nn
  | .c, nn => .jpCnn nn

/-- JR cc,e (R275). -/
def Row.jrCc : Cond → Byte → Instr
  | .nz, e => .jrNZe e
  | .z, e => .jrZe e
  | .nc, e => .jrNCe e
  | .c, e => .jrCe e

/-- CALL cc,nn (R277). -/
def Row.callCc : Cond → Word → Instr
  | .nz, nn => .callNZnn nn
  | .z, nn => .callZnn nn
  | .nc, nn => .callNCnn nn
  | .c, nn => .callCnn nn

/-- RET cc (R279). -/
def Row.retCc : Cond → Instr
  | .nz => .retNZ
  | .z => .retZ
  | .nc => .retNC
  | .c => .retC

/-- RST t for t = 8 * y (R128, R281). -/
def Row.rst : BitVec 3 → Instr
  | 0 => .rst00
  | 1 => .rst08
  | 2 => .rst10
  | 3 => .rst18
  | 4 => .rst20
  | 5 => .rst28
  | 6 => .rst30
  | 7 => .rst38

/-- The 0xCB rotates and shifts of a register (R291 to R298). -/
def Row.rotR : RotOp → R8 → Instr
  | .rlc, .b => .rlcB
  | .rlc, .c => .rlcC
  | .rlc, .d => .rlcD
  | .rlc, .e => .rlcE
  | .rlc, .h => .rlcH
  | .rlc, .l => .rlcL
  | .rlc, .a => .rlcA
  | .rrc, .b => .rrcB
  | .rrc, .c => .rrcC
  | .rrc, .d => .rrcD
  | .rrc, .e => .rrcE
  | .rrc, .h => .rrcH
  | .rrc, .l => .rrcL
  | .rrc, .a => .rrcA
  | .rl, .b => .rlB
  | .rl, .c => .rlC
  | .rl, .d => .rlD
  | .rl, .e => .rlE
  | .rl, .h => .rlH
  | .rl, .l => .rlL
  | .rl, .a => .rlA
  | .rr, .b => .rrB
  | .rr, .c => .rrC
  | .rr, .d => .rrD
  | .rr, .e => .rrE
  | .rr, .h => .rrH
  | .rr, .l => .rrL
  | .rr, .a => .rrA
  | .sla, .b => .slaB
  | .sla, .c => .slaC
  | .sla, .d => .slaD
  | .sla, .e => .slaE
  | .sla, .h => .slaH
  | .sla, .l => .slaL
  | .sla, .a => .slaA
  | .sra, .b => .sraB
  | .sra, .c => .sraC
  | .sra, .d => .sraD
  | .sra, .e => .sraE
  | .sra, .h => .sraH
  | .sra, .l => .sraL
  | .sra, .a => .sraA
  | .swap, .b => .swapB
  | .swap, .c => .swapC
  | .swap, .d => .swapD
  | .swap, .e => .swapE
  | .swap, .h => .swapH
  | .swap, .l => .swapL
  | .swap, .a => .swapA
  | .srl, .b => .srlB
  | .srl, .c => .srlC
  | .srl, .d => .srlD
  | .srl, .e => .srlE
  | .srl, .h => .srlH
  | .srl, .l => .srlL
  | .srl, .a => .srlA

/-- The 0xCB rotates and shifts of (HL) (R291 to R298). -/
def Row.rotHl : RotOp → Instr
  | .rlc => .rlcAtHL
  | .rrc => .rrcAtHL
  | .rl => .rlAtHL
  | .rr => .rrAtHL
  | .sla => .slaAtHL
  | .sra => .sraAtHL
  | .swap => .swapAtHL
  | .srl => .srlAtHL

/-- BIT b,s (R299) on a register. -/
def Row.bitR : BitVec 3 → R8 → Instr
  | 0, .b => .bit0B
  | 0, .c => .bit0C
  | 0, .d => .bit0D
  | 0, .e => .bit0E
  | 0, .h => .bit0H
  | 0, .l => .bit0L
  | 0, .a => .bit0A
  | 1, .b => .bit1B
  | 1, .c => .bit1C
  | 1, .d => .bit1D
  | 1, .e => .bit1E
  | 1, .h => .bit1H
  | 1, .l => .bit1L
  | 1, .a => .bit1A
  | 2, .b => .bit2B
  | 2, .c => .bit2C
  | 2, .d => .bit2D
  | 2, .e => .bit2E
  | 2, .h => .bit2H
  | 2, .l => .bit2L
  | 2, .a => .bit2A
  | 3, .b => .bit3B
  | 3, .c => .bit3C
  | 3, .d => .bit3D
  | 3, .e => .bit3E
  | 3, .h => .bit3H
  | 3, .l => .bit3L
  | 3, .a => .bit3A
  | 4, .b => .bit4B
  | 4, .c => .bit4C
  | 4, .d => .bit4D
  | 4, .e => .bit4E
  | 4, .h => .bit4H
  | 4, .l => .bit4L
  | 4, .a => .bit4A
  | 5, .b => .bit5B
  | 5, .c => .bit5C
  | 5, .d => .bit5D
  | 5, .e => .bit5E
  | 5, .h => .bit5H
  | 5, .l => .bit5L
  | 5, .a => .bit5A
  | 6, .b => .bit6B
  | 6, .c => .bit6C
  | 6, .d => .bit6D
  | 6, .e => .bit6E
  | 6, .h => .bit6H
  | 6, .l => .bit6L
  | 6, .a => .bit6A
  | 7, .b => .bit7B
  | 7, .c => .bit7C
  | 7, .d => .bit7D
  | 7, .e => .bit7E
  | 7, .h => .bit7H
  | 7, .l => .bit7L
  | 7, .a => .bit7A

/-- BIT b,s (R299) on (HL). -/
def Row.bitHl : BitVec 3 → Instr
  | 0 => .bit0AtHL
  | 1 => .bit1AtHL
  | 2 => .bit2AtHL
  | 3 => .bit3AtHL
  | 4 => .bit4AtHL
  | 5 => .bit5AtHL
  | 6 => .bit6AtHL
  | 7 => .bit7AtHL

/-- RES b,s (R300) on a register. -/
def Row.resR : BitVec 3 → R8 → Instr
  | 0, .b => .res0B
  | 0, .c => .res0C
  | 0, .d => .res0D
  | 0, .e => .res0E
  | 0, .h => .res0H
  | 0, .l => .res0L
  | 0, .a => .res0A
  | 1, .b => .res1B
  | 1, .c => .res1C
  | 1, .d => .res1D
  | 1, .e => .res1E
  | 1, .h => .res1H
  | 1, .l => .res1L
  | 1, .a => .res1A
  | 2, .b => .res2B
  | 2, .c => .res2C
  | 2, .d => .res2D
  | 2, .e => .res2E
  | 2, .h => .res2H
  | 2, .l => .res2L
  | 2, .a => .res2A
  | 3, .b => .res3B
  | 3, .c => .res3C
  | 3, .d => .res3D
  | 3, .e => .res3E
  | 3, .h => .res3H
  | 3, .l => .res3L
  | 3, .a => .res3A
  | 4, .b => .res4B
  | 4, .c => .res4C
  | 4, .d => .res4D
  | 4, .e => .res4E
  | 4, .h => .res4H
  | 4, .l => .res4L
  | 4, .a => .res4A
  | 5, .b => .res5B
  | 5, .c => .res5C
  | 5, .d => .res5D
  | 5, .e => .res5E
  | 5, .h => .res5H
  | 5, .l => .res5L
  | 5, .a => .res5A
  | 6, .b => .res6B
  | 6, .c => .res6C
  | 6, .d => .res6D
  | 6, .e => .res6E
  | 6, .h => .res6H
  | 6, .l => .res6L
  | 6, .a => .res6A
  | 7, .b => .res7B
  | 7, .c => .res7C
  | 7, .d => .res7D
  | 7, .e => .res7E
  | 7, .h => .res7H
  | 7, .l => .res7L
  | 7, .a => .res7A

/-- RES b,s (R300) on (HL). -/
def Row.resHl : BitVec 3 → Instr
  | 0 => .res0AtHL
  | 1 => .res1AtHL
  | 2 => .res2AtHL
  | 3 => .res3AtHL
  | 4 => .res4AtHL
  | 5 => .res5AtHL
  | 6 => .res6AtHL
  | 7 => .res7AtHL

/-- SET b,s (R301) on a register. -/
def Row.setR : BitVec 3 → R8 → Instr
  | 0, .b => .set0B
  | 0, .c => .set0C
  | 0, .d => .set0D
  | 0, .e => .set0E
  | 0, .h => .set0H
  | 0, .l => .set0L
  | 0, .a => .set0A
  | 1, .b => .set1B
  | 1, .c => .set1C
  | 1, .d => .set1D
  | 1, .e => .set1E
  | 1, .h => .set1H
  | 1, .l => .set1L
  | 1, .a => .set1A
  | 2, .b => .set2B
  | 2, .c => .set2C
  | 2, .d => .set2D
  | 2, .e => .set2E
  | 2, .h => .set2H
  | 2, .l => .set2L
  | 2, .a => .set2A
  | 3, .b => .set3B
  | 3, .c => .set3C
  | 3, .d => .set3D
  | 3, .e => .set3E
  | 3, .h => .set3H
  | 3, .l => .set3L
  | 3, .a => .set3A
  | 4, .b => .set4B
  | 4, .c => .set4C
  | 4, .d => .set4D
  | 4, .e => .set4E
  | 4, .h => .set4H
  | 4, .l => .set4L
  | 4, .a => .set4A
  | 5, .b => .set5B
  | 5, .c => .set5C
  | 5, .d => .set5D
  | 5, .e => .set5E
  | 5, .h => .set5H
  | 5, .l => .set5L
  | 5, .a => .set5A
  | 6, .b => .set6B
  | 6, .c => .set6C
  | 6, .d => .set6D
  | 6, .e => .set6E
  | 6, .h => .set6H
  | 6, .l => .set6L
  | 6, .a => .set6A
  | 7, .b => .set7B
  | 7, .c => .set7C
  | 7, .d => .set7D
  | 7, .e => .set7E
  | 7, .h => .set7H
  | 7, .l => .set7L
  | 7, .a => .set7A

/-- SET b,s (R301) on (HL). -/
def Row.setHl : BitVec 3 → Instr
  | 0 => .set0AtHL
  | 1 => .set1AtHL
  | 2 => .set2AtHL
  | 3 => .set3AtHL
  | 4 => .set4AtHL
  | 5 => .set5AtHL
  | 6 => .set6AtHL
  | 7 => .set7AtHL

/-! The fields of an instruction byte. -/

/-- r8[k]; selector 6 is the memory operand (HL) (R122). -/
def r8Of : BitVec 3 → Option R8
  | 0 => some .b
  | 1 => some .c
  | 2 => some .d
  | 3 => some .e
  | 4 => some .h
  | 5 => some .l
  | 6 => none
  | 7 => some .a

/-- rp[p] (R123). -/
def rpOf : BitVec 2 → Rp
  | 0 => .bc
  | 1 => .de
  | 2 => .hl
  | 3 => .sp

/-- rp2[p] (R123). -/
def rp2Of : BitVec 2 → Rp2
  | 0 => .bc
  | 1 => .de
  | 2 => .hl
  | 3 => .af

/-- cc (R124). -/
def condOf : BitVec 2 → Cond
  | 0 => .nz
  | 1 => .z
  | 2 => .nc
  | 3 => .c

/-- alu[y] (R125). -/
def aluOf : BitVec 3 → AluOp
  | 0 => .add
  | 1 => .adc
  | 2 => .sub
  | 3 => .sbc
  | 4 => .and
  | 5 => .xor
  | 6 => .or
  | 7 => .cp

/-- rot[b] (R126). -/
def rotOf : BitVec 3 → RotOp
  | 0 => .rlc
  | 1 => .rrc
  | 2 => .rl
  | 3 => .rr
  | 4 => .sla
  | 5 => .sra
  | 6 => .swap
  | 7 => .srl

/-- x = op[7:6] (R121). -/
def fieldX (op : Byte) : BitVec 2 := op.extractLsb' 6 2

/-- y = op[5:3], also b of a sub-opcode (R121, R126). -/
def fieldY (op : Byte) : BitVec 3 := op.extractLsb' 3 3

/-- z = op[2:0], also z2 of a sub-opcode (R121, R126). -/
def fieldZ (op : Byte) : BitVec 3 := op.extractLsb' 0 3

/-- p = op[5:4] (R121). -/
def fieldP (op : Byte) : BitVec 2 := op.extractLsb' 4 2

/-- q = op[3] (R121). -/
def fieldQ (op : Byte) : Bool := op.getLsbD 3

/-- cc = op[4:3] (R124). -/
def fieldCc (op : Byte) : BitVec 2 := op.extractLsb' 3 2

/-- n16 is byte2 : byte1 (R127). -/
def imm16 (b1 b2 : Byte) : Word := b2 ++ b1

/-! The decoder. -/

/-- Why bytes are no instruction. -/
inductive Reject where
  /-- The bytes end before the instruction does. -/
  | truncated
  /-- STOP's trailing byte `u` is not 0x00 (R129, R131). -/
  | stopTrailing (u : Byte)
deriving DecidableEq, Repr

/-- The opcodes with x = 0 (R133). -/
def decodeX0 (op b1 b2 : Byte) : Except Reject Instr :=
  match fieldZ op with
  | 0 =>
    match fieldY op with
    | 0 => .ok .nop
    | 1 => .ok (.ldAtNnSP (imm16 b1 b2))
    | 2 => if b1 = 0x00 then .ok (.stop b1) else .error (.stopTrailing b1)
    | 3 => .ok (.jre b1)
    | _ => .ok (Row.jrCc (condOf (fieldCc op)) b1)
  | 1 => .ok (if fieldQ op then Row.addHl (rpOf (fieldP op)) else Row.ldRpNn (rpOf (fieldP op)) (imm16 b1 b2))
  | 2 =>
    match fieldY op with
    | 0 => .ok .ldAtBCA
    | 1 => .ok .ldAAtBC
    | 2 => .ok .ldAtDEA
    | 3 => .ok .ldAAtDE
    | 4 => .ok .ldAtHLIncA
    | 5 => .ok .ldAAtHLInc
    | 6 => .ok .ldAtHLDecA
    | 7 => .ok .ldAAtHLDec
  | 3 => .ok (if fieldQ op then Row.decRp (rpOf (fieldP op)) else Row.incRp (rpOf (fieldP op)))
  | 4 =>
    match r8Of (fieldY op) with
    | some r => .ok (Row.incR r)
    | none => .ok .incAtHL
  | 5 =>
    match r8Of (fieldY op) with
    | some r => .ok (Row.decR r)
    | none => .ok .decAtHL
  | 6 =>
    match r8Of (fieldY op) with
    | some r => .ok (Row.ldRN r b1)
    | none => .ok (.ldAtHLn b1)
  | 7 =>
    match fieldY op with
    | 0 => .ok .rlca
    | 1 => .ok .rrca
    | 2 => .ok .rla
    | 3 => .ok .rra
    | 4 => .ok .daa
    | 5 => .ok .cpl
    | 6 => .ok .scf
    | 7 => .ok .ccf

/-- The opcodes with x = 1: the loads, and HALT where both selectors name (HL) (R131, R133). -/
def decodeX1 (op : Byte) : Instr :=
  match r8Of (fieldY op), r8Of (fieldZ op) with
  | some dst, some src => Row.ldRR dst src
  | some dst, none => Row.ldRHl dst
  | none, some src => Row.ldHlR src
  | none, none => .halt

/-- The opcodes with x = 2 (R125, R133). -/
def decodeX2 (op : Byte) : Instr :=
  match r8Of (fieldZ op) with
  | some s => Row.aluR (aluOf (fieldY op)) s
  | none => Row.aluHl (aluOf (fieldY op))

/-- The sub-opcodes of the prefix 0xCB (R126, R134): every one of the 256 is defined. -/
def decodeCb (op2 : Byte) : Instr :=
  match fieldX op2, r8Of (fieldZ op2) with
  | 0, some r => Row.rotR (rotOf (fieldY op2)) r
  | 0, none => Row.rotHl (rotOf (fieldY op2))
  | 1, some r => Row.bitR (fieldY op2) r
  | 1, none => Row.bitHl (fieldY op2)
  | 2, some r => Row.resR (fieldY op2) r
  | 2, none => Row.resHl (fieldY op2)
  | 3, some r => Row.setR (fieldY op2) r
  | 3, none => Row.setHl (fieldY op2)

/-- The opcodes with x = 3 (R133); 0xCB selects the sub-table by the second byte. -/
def decodeX3 (op b1 b2 : Byte) : Instr :=
  match fieldZ op with
  | 0 =>
    match fieldY op with
    | 4 => .ldhAtNA b1
    | 5 => .addSPe b1
    | 6 => .ldhAAtN b1
    | 7 => .ldHLSPe b1
    | _ => Row.retCc (condOf (fieldCc op))
  | 1 =>
    if fieldQ op then
      match fieldP op with
      | 0 => .ret
      | 1 => .reti
      | 2 => .jpHL
      | 3 => .ldSPHL
    else Row.pop (rp2Of (fieldP op))
  | 2 =>
    match fieldY op with
    | 4 => .ldAtCA
    | 5 => .ldAtNnA (imm16 b1 b2)
    | 6 => .ldAAtC
    | 7 => .ldAAtNn (imm16 b1 b2)
    | _ => Row.jpCc (condOf (fieldCc op)) (imm16 b1 b2)
  | 3 =>
    match fieldY op with
    | 0 => .jpnn (imm16 b1 b2)
    | 1 => decodeCb b1
    | 2 => .unusedD3
    | 3 => .unusedDB
    | 4 => .unusedE3
    | 5 => .unusedEB
    | 6 => .di
    | 7 => .ei
  | 4 =>
    match fieldY op with
    | 4 => .unusedE4
    | 5 => .unusedEC
    | 6 => .unusedF4
    | 7 => .unusedFC
    | _ => Row.callCc (condOf (fieldCc op)) (imm16 b1 b2)
  | 5 =>
    if fieldQ op then
      match fieldP op with
      | 0 => .callnn (imm16 b1 b2)
      | 1 => .unusedDD
      | 2 => .unusedED
      | 3 => .unusedFD
    else Row.push (rp2Of (fieldP op))
  | 6 => Row.aluN (aluOf (fieldY op)) b1
  | 7 => Row.rst (fieldY op)

/-- The instruction of an opcode byte and the bytes after it (R133, R134). The bytes past its length have no effect. -/
def decodeOp (op b1 b2 : Byte) : Except Reject Instr :=
  match fieldX op with
  | 0 => decodeX0 op b1 b2
  | 1 => .ok (decodeX1 op)
  | 2 => .ok (decodeX2 op)
  | 3 => .ok (decodeX3 op b1 b2)

/-- How many bytes follow the opcode byte (R120, R132): it tells the length alone. -/
def operandBytes (op : Byte) : Nat :=
  match fieldX op, fieldZ op with
  | 0, 0 => if fieldY op = 0 then 0 else if fieldY op = 1 then 2 else 1
  | 0, 1 => if fieldQ op then 0 else 2
  | 0, 6 => 1
  | 3, 0 => if op.getLsbD 5 then 1 else 0
  | 3, 2 => if op.getLsbD 5 then (if fieldQ op then 2 else 0) else 2
  | 3, 3 => if fieldY op = 0 then 2 else if fieldY op = 1 then 1 else 0
  | 3, 4 => if op.getLsbD 5 then 0 else 2
  | 3, 5 => if op = 0xCD then 2 else 0
  | 3, 6 => 1
  | _, _ => 0

/-- What bytes decode to: an instruction and the bytes after it, or a rejection. -/
inductive Decoded where
  | instr (i : Instr) (rest : List Byte)
  | rejected (r : Reject)
deriving DecidableEq, Repr

/-- Decodes the instruction at the head of a list of bytes; total. The byte 0xCB with nothing after it is the prefix row
alone (R290, R404); any other instruction that the list cuts short is rejected as truncated. -/
def decode : List Byte → Decoded
  | [] => .rejected .truncated
  | op :: rest =>
    if rest.length < operandBytes op then
      (if op = 0xCB then .instr .cbPrefix rest else .rejected .truncated)
    else
      match decodeOp op (rest.getD 0 0) (rest.getD 1 0) with
      | .ok i => .instr i (rest.drop (operandBytes op))
      | .error r => .rejected r

/-! The table's words as bytes. -/

/-- The bytes of an instruction whose bits are `w`, numbered as spec/opcode_table.json numbers them (log 4). The table's
two-byte matches, 0xCBnn and 0x1000, are one number with the first byte in the HIGH part; every other row's bits
count on from bit 0 of the first byte, a later byte's above them. -/
def tableBytes (nbits w : Nat) : List Byte :=
  let byte (i : Nat) : Byte := BitVec.ofNat 8 (w >>> (8 * i))
  if nbits = 16 ∧ (byte 1 = 0xCB ∨ w = 0x1000) then [byte 1, byte 0]
  else if nbits ≤ 8 then [byte 0]
  else if nbits ≤ 16 then [byte 0, byte 1]
  else [byte 0, byte 1, byte 2]

/-- The instruction the decoder reads from the table's word; the bits above `nbits` that the instruction has are 0. -/
def decodeTableWord (nbits w : Nat) : Option Instr :=
  match decode (tableBytes nbits w) with
  | .instr i _ => some i
  | .rejected _ =>
    match decode (tableBytes nbits w ++ [0, 0]) with
    | .instr i _ => some i
    | .rejected _ => none

/-! The encoder. -/

/-- The bytes of an instruction, from the match column of spec/opcode_table.json and the formats of R120 and R127. -/
def encode : Instr → List Byte
  | .nop => [0x00]
  | .ldBCnn nn => [0x01, nn.extractLsb' 0 8, nn.extractLsb' 8 8]
  | .ldAtBCA => [0x02]
  | .incBC => [0x03]
  | .incB => [0x04]
  | .decB => [0x05]
  | .ldBn n => [0x06, n]
  | .rlca => [0x07]
  | .ldAtNnSP nn => [0x08, nn.extractLsb' 0 8, nn.extractLsb' 8 8]
  | .addHLBC => [0x09]
  | .ldAAtBC => [0x0A]
  | .decBC => [0x0B]
  | .incC => [0x0C]
  | .decC => [0x0D]
  | .ldCn n => [0x0E, n]
  | .rrca => [0x0F]
  | .stop u => [0x10, u]
  | .ldDEnn nn => [0x11, nn.extractLsb' 0 8, nn.extractLsb' 8 8]
  | .ldAtDEA => [0x12]
  | .incDE => [0x13]
  | .incD => [0x14]
  | .decD => [0x15]
  | .ldDn n => [0x16, n]
  | .rla => [0x17]
  | .jre e => [0x18, e]
  | .addHLDE => [0x19]
  | .ldAAtDE => [0x1A]
  | .decDE => [0x1B]
  | .incE => [0x1C]
  | .decE => [0x1D]
  | .ldEn n => [0x1E, n]
  | .rra => [0x1F]
  | .jrNZe e => [0x20, e]
  | .ldHLnn nn => [0x21, nn.extractLsb' 0 8, nn.extractLsb' 8 8]
  | .ldAtHLIncA => [0x22]
  | .incHL => [0x23]
  | .incH => [0x24]
  | .decH => [0x25]
  | .ldHn n => [0x26, n]
  | .daa => [0x27]
  | .jrZe e => [0x28, e]
  | .addHLHL => [0x29]
  | .ldAAtHLInc => [0x2A]
  | .decHL => [0x2B]
  | .incL => [0x2C]
  | .decL => [0x2D]
  | .ldLn n => [0x2E, n]
  | .cpl => [0x2F]
  | .jrNCe e => [0x30, e]
  | .ldSPnn nn => [0x31, nn.extractLsb' 0 8, nn.extractLsb' 8 8]
  | .ldAtHLDecA => [0x32]
  | .incSP => [0x33]
  | .incAtHL => [0x34]
  | .decAtHL => [0x35]
  | .ldAtHLn n => [0x36, n]
  | .scf => [0x37]
  | .jrCe e => [0x38, e]
  | .addHLSP => [0x39]
  | .ldAAtHLDec => [0x3A]
  | .decSP => [0x3B]
  | .incA => [0x3C]
  | .decA => [0x3D]
  | .ldAn n => [0x3E, n]
  | .ccf => [0x3F]
  | .ldBB => [0x40]
  | .ldBC => [0x41]
  | .ldBD => [0x42]
  | .ldBE => [0x43]
  | .ldBH => [0x44]
  | .ldBL => [0x45]
  | .ldBAtHL => [0x46]
  | .ldBA => [0x47]
  | .ldCB => [0x48]
  | .ldCC => [0x49]
  | .ldCD => [0x4A]
  | .ldCE => [0x4B]
  | .ldCH => [0x4C]
  | .ldCL => [0x4D]
  | .ldCAtHL => [0x4E]
  | .ldCA => [0x4F]
  | .ldDB => [0x50]
  | .ldDC => [0x51]
  | .ldDD => [0x52]
  | .ldDE => [0x53]
  | .ldDH => [0x54]
  | .ldDL => [0x55]
  | .ldDAtHL => [0x56]
  | .ldDA => [0x57]
  | .ldEB => [0x58]
  | .ldEC => [0x59]
  | .ldED => [0x5A]
  | .ldEE => [0x5B]
  | .ldEH => [0x5C]
  | .ldEL => [0x5D]
  | .ldEAtHL => [0x5E]
  | .ldEA => [0x5F]
  | .ldHB => [0x60]
  | .ldHC => [0x61]
  | .ldHD => [0x62]
  | .ldHE => [0x63]
  | .ldHH => [0x64]
  | .ldHL => [0x65]
  | .ldHAtHL => [0x66]
  | .ldHA => [0x67]
  | .ldLB => [0x68]
  | .ldLC => [0x69]
  | .ldLD => [0x6A]
  | .ldLE => [0x6B]
  | .ldLH => [0x6C]
  | .ldLL => [0x6D]
  | .ldLAtHL => [0x6E]
  | .ldLA => [0x6F]
  | .ldAtHLB => [0x70]
  | .ldAtHLC => [0x71]
  | .ldAtHLD => [0x72]
  | .ldAtHLE => [0x73]
  | .ldAtHLH => [0x74]
  | .ldAtHLL => [0x75]
  | .halt => [0x76]
  | .ldAtHLA => [0x77]
  | .ldAB => [0x78]
  | .ldAC => [0x79]
  | .ldAD => [0x7A]
  | .ldAE => [0x7B]
  | .ldAH => [0x7C]
  | .ldAL => [0x7D]
  | .ldAAtHL => [0x7E]
  | .ldAA => [0x7F]
  | .addAB => [0x80]
  | .addAC => [0x81]
  | .addAD => [0x82]
  | .addAE => [0x83]
  | .addAH => [0x84]
  | .addAL => [0x85]
  | .addAAtHL => [0x86]
  | .addAA => [0x87]
  | .adcAB => [0x88]
  | .adcAC => [0x89]
  | .adcAD => [0x8A]
  | .adcAE => [0x8B]
  | .adcAH => [0x8C]
  | .adcAL => [0x8D]
  | .adcAAtHL => [0x8E]
  | .adcAA => [0x8F]
  | .subB => [0x90]
  | .subC => [0x91]
  | .subD => [0x92]
  | .subE => [0x93]
  | .subH => [0x94]
  | .subL => [0x95]
  | .subAtHL => [0x96]
  | .subA => [0x97]
  | .sbcAB => [0x98]
  | .sbcAC => [0x99]
  | .sbcAD => [0x9A]
  | .sbcAE => [0x9B]
  | .sbcAH => [0x9C]
  | .sbcAL => [0x9D]
  | .sbcAAtHL => [0x9E]
  | .sbcAA => [0x9F]
  | .andB => [0xA0]
  | .andC => [0xA1]
  | .andD => [0xA2]
  | .andE => [0xA3]
  | .andH => [0xA4]
  | .andL => [0xA5]
  | .andAtHL => [0xA6]
  | .andA => [0xA7]
  | .xorB => [0xA8]
  | .xorC => [0xA9]
  | .xorD => [0xAA]
  | .xorE => [0xAB]
  | .xorH => [0xAC]
  | .xorL => [0xAD]
  | .xorAtHL => [0xAE]
  | .xorA => [0xAF]
  | .orB => [0xB0]
  | .orC => [0xB1]
  | .orD => [0xB2]
  | .orE => [0xB3]
  | .orH => [0xB4]
  | .orL => [0xB5]
  | .orAtHL => [0xB6]
  | .orA => [0xB7]
  | .cpB => [0xB8]
  | .cpC => [0xB9]
  | .cpD => [0xBA]
  | .cpE => [0xBB]
  | .cpH => [0xBC]
  | .cpL => [0xBD]
  | .cpAtHL => [0xBE]
  | .cpA => [0xBF]
  | .retNZ => [0xC0]
  | .popBC => [0xC1]
  | .jpNZnn nn => [0xC2, nn.extractLsb' 0 8, nn.extractLsb' 8 8]
  | .jpnn nn => [0xC3, nn.extractLsb' 0 8, nn.extractLsb' 8 8]
  | .callNZnn nn => [0xC4, nn.extractLsb' 0 8, nn.extractLsb' 8 8]
  | .pushBC => [0xC5]
  | .addAn n => [0xC6, n]
  | .rst00 => [0xC7]
  | .retZ => [0xC8]
  | .ret => [0xC9]
  | .jpZnn nn => [0xCA, nn.extractLsb' 0 8, nn.extractLsb' 8 8]
  | .cbPrefix => [0xCB]
  | .callZnn nn => [0xCC, nn.extractLsb' 0 8, nn.extractLsb' 8 8]
  | .callnn nn => [0xCD, nn.extractLsb' 0 8, nn.extractLsb' 8 8]
  | .adcAn n => [0xCE, n]
  | .rst08 => [0xCF]
  | .retNC => [0xD0]
  | .popDE => [0xD1]
  | .jpNCnn nn => [0xD2, nn.extractLsb' 0 8, nn.extractLsb' 8 8]
  | .unusedD3 => [0xD3]
  | .callNCnn nn => [0xD4, nn.extractLsb' 0 8, nn.extractLsb' 8 8]
  | .pushDE => [0xD5]
  | .subn n => [0xD6, n]
  | .rst10 => [0xD7]
  | .retC => [0xD8]
  | .reti => [0xD9]
  | .jpCnn nn => [0xDA, nn.extractLsb' 0 8, nn.extractLsb' 8 8]
  | .unusedDB => [0xDB]
  | .callCnn nn => [0xDC, nn.extractLsb' 0 8, nn.extractLsb' 8 8]
  | .unusedDD => [0xDD]
  | .sbcAn n => [0xDE, n]
  | .rst18 => [0xDF]
  | .ldhAtNA n => [0xE0, n]
  | .popHL => [0xE1]
  | .ldAtCA => [0xE2]
  | .unusedE3 => [0xE3]
  | .unusedE4 => [0xE4]
  | .pushHL => [0xE5]
  | .andn n => [0xE6, n]
  | .rst20 => [0xE7]
  | .addSPe e => [0xE8, e]
  | .jpHL => [0xE9]
  | .ldAtNnA nn => [0xEA, nn.extractLsb' 0 8, nn.extractLsb' 8 8]
  | .unusedEB => [0xEB]
  | .unusedEC => [0xEC]
  | .unusedED => [0xED]
  | .xorn n => [0xEE, n]
  | .rst28 => [0xEF]
  | .ldhAAtN n => [0xF0, n]
  | .popAF => [0xF1]
  | .ldAAtC => [0xF2]
  | .di => [0xF3]
  | .unusedF4 => [0xF4]
  | .pushAF => [0xF5]
  | .orn n => [0xF6, n]
  | .rst30 => [0xF7]
  | .ldHLSPe e => [0xF8, e]
  | .ldSPHL => [0xF9]
  | .ldAAtNn nn => [0xFA, nn.extractLsb' 0 8, nn.extractLsb' 8 8]
  | .ei => [0xFB]
  | .unusedFC => [0xFC]
  | .unusedFD => [0xFD]
  | .cpn n => [0xFE, n]
  | .rst38 => [0xFF]
  | .rlcB => [0xCB, 0x00]
  | .rlcC => [0xCB, 0x01]
  | .rlcD => [0xCB, 0x02]
  | .rlcE => [0xCB, 0x03]
  | .rlcH => [0xCB, 0x04]
  | .rlcL => [0xCB, 0x05]
  | .rlcAtHL => [0xCB, 0x06]
  | .rlcA => [0xCB, 0x07]
  | .rrcB => [0xCB, 0x08]
  | .rrcC => [0xCB, 0x09]
  | .rrcD => [0xCB, 0x0A]
  | .rrcE => [0xCB, 0x0B]
  | .rrcH => [0xCB, 0x0C]
  | .rrcL => [0xCB, 0x0D]
  | .rrcAtHL => [0xCB, 0x0E]
  | .rrcA => [0xCB, 0x0F]
  | .rlB => [0xCB, 0x10]
  | .rlC => [0xCB, 0x11]
  | .rlD => [0xCB, 0x12]
  | .rlE => [0xCB, 0x13]
  | .rlH => [0xCB, 0x14]
  | .rlL => [0xCB, 0x15]
  | .rlAtHL => [0xCB, 0x16]
  | .rlA => [0xCB, 0x17]
  | .rrB => [0xCB, 0x18]
  | .rrC => [0xCB, 0x19]
  | .rrD => [0xCB, 0x1A]
  | .rrE => [0xCB, 0x1B]
  | .rrH => [0xCB, 0x1C]
  | .rrL => [0xCB, 0x1D]
  | .rrAtHL => [0xCB, 0x1E]
  | .rrA => [0xCB, 0x1F]
  | .slaB => [0xCB, 0x20]
  | .slaC => [0xCB, 0x21]
  | .slaD => [0xCB, 0x22]
  | .slaE => [0xCB, 0x23]
  | .slaH => [0xCB, 0x24]
  | .slaL => [0xCB, 0x25]
  | .slaAtHL => [0xCB, 0x26]
  | .slaA => [0xCB, 0x27]
  | .sraB => [0xCB, 0x28]
  | .sraC => [0xCB, 0x29]
  | .sraD => [0xCB, 0x2A]
  | .sraE => [0xCB, 0x2B]
  | .sraH => [0xCB, 0x2C]
  | .sraL => [0xCB, 0x2D]
  | .sraAtHL => [0xCB, 0x2E]
  | .sraA => [0xCB, 0x2F]
  | .swapB => [0xCB, 0x30]
  | .swapC => [0xCB, 0x31]
  | .swapD => [0xCB, 0x32]
  | .swapE => [0xCB, 0x33]
  | .swapH => [0xCB, 0x34]
  | .swapL => [0xCB, 0x35]
  | .swapAtHL => [0xCB, 0x36]
  | .swapA => [0xCB, 0x37]
  | .srlB => [0xCB, 0x38]
  | .srlC => [0xCB, 0x39]
  | .srlD => [0xCB, 0x3A]
  | .srlE => [0xCB, 0x3B]
  | .srlH => [0xCB, 0x3C]
  | .srlL => [0xCB, 0x3D]
  | .srlAtHL => [0xCB, 0x3E]
  | .srlA => [0xCB, 0x3F]
  | .bit0B => [0xCB, 0x40]
  | .bit0C => [0xCB, 0x41]
  | .bit0D => [0xCB, 0x42]
  | .bit0E => [0xCB, 0x43]
  | .bit0H => [0xCB, 0x44]
  | .bit0L => [0xCB, 0x45]
  | .bit0AtHL => [0xCB, 0x46]
  | .bit0A => [0xCB, 0x47]
  | .bit1B => [0xCB, 0x48]
  | .bit1C => [0xCB, 0x49]
  | .bit1D => [0xCB, 0x4A]
  | .bit1E => [0xCB, 0x4B]
  | .bit1H => [0xCB, 0x4C]
  | .bit1L => [0xCB, 0x4D]
  | .bit1AtHL => [0xCB, 0x4E]
  | .bit1A => [0xCB, 0x4F]
  | .bit2B => [0xCB, 0x50]
  | .bit2C => [0xCB, 0x51]
  | .bit2D => [0xCB, 0x52]
  | .bit2E => [0xCB, 0x53]
  | .bit2H => [0xCB, 0x54]
  | .bit2L => [0xCB, 0x55]
  | .bit2AtHL => [0xCB, 0x56]
  | .bit2A => [0xCB, 0x57]
  | .bit3B => [0xCB, 0x58]
  | .bit3C => [0xCB, 0x59]
  | .bit3D => [0xCB, 0x5A]
  | .bit3E => [0xCB, 0x5B]
  | .bit3H => [0xCB, 0x5C]
  | .bit3L => [0xCB, 0x5D]
  | .bit3AtHL => [0xCB, 0x5E]
  | .bit3A => [0xCB, 0x5F]
  | .bit4B => [0xCB, 0x60]
  | .bit4C => [0xCB, 0x61]
  | .bit4D => [0xCB, 0x62]
  | .bit4E => [0xCB, 0x63]
  | .bit4H => [0xCB, 0x64]
  | .bit4L => [0xCB, 0x65]
  | .bit4AtHL => [0xCB, 0x66]
  | .bit4A => [0xCB, 0x67]
  | .bit5B => [0xCB, 0x68]
  | .bit5C => [0xCB, 0x69]
  | .bit5D => [0xCB, 0x6A]
  | .bit5E => [0xCB, 0x6B]
  | .bit5H => [0xCB, 0x6C]
  | .bit5L => [0xCB, 0x6D]
  | .bit5AtHL => [0xCB, 0x6E]
  | .bit5A => [0xCB, 0x6F]
  | .bit6B => [0xCB, 0x70]
  | .bit6C => [0xCB, 0x71]
  | .bit6D => [0xCB, 0x72]
  | .bit6E => [0xCB, 0x73]
  | .bit6H => [0xCB, 0x74]
  | .bit6L => [0xCB, 0x75]
  | .bit6AtHL => [0xCB, 0x76]
  | .bit6A => [0xCB, 0x77]
  | .bit7B => [0xCB, 0x78]
  | .bit7C => [0xCB, 0x79]
  | .bit7D => [0xCB, 0x7A]
  | .bit7E => [0xCB, 0x7B]
  | .bit7H => [0xCB, 0x7C]
  | .bit7L => [0xCB, 0x7D]
  | .bit7AtHL => [0xCB, 0x7E]
  | .bit7A => [0xCB, 0x7F]
  | .res0B => [0xCB, 0x80]
  | .res0C => [0xCB, 0x81]
  | .res0D => [0xCB, 0x82]
  | .res0E => [0xCB, 0x83]
  | .res0H => [0xCB, 0x84]
  | .res0L => [0xCB, 0x85]
  | .res0AtHL => [0xCB, 0x86]
  | .res0A => [0xCB, 0x87]
  | .res1B => [0xCB, 0x88]
  | .res1C => [0xCB, 0x89]
  | .res1D => [0xCB, 0x8A]
  | .res1E => [0xCB, 0x8B]
  | .res1H => [0xCB, 0x8C]
  | .res1L => [0xCB, 0x8D]
  | .res1AtHL => [0xCB, 0x8E]
  | .res1A => [0xCB, 0x8F]
  | .res2B => [0xCB, 0x90]
  | .res2C => [0xCB, 0x91]
  | .res2D => [0xCB, 0x92]
  | .res2E => [0xCB, 0x93]
  | .res2H => [0xCB, 0x94]
  | .res2L => [0xCB, 0x95]
  | .res2AtHL => [0xCB, 0x96]
  | .res2A => [0xCB, 0x97]
  | .res3B => [0xCB, 0x98]
  | .res3C => [0xCB, 0x99]
  | .res3D => [0xCB, 0x9A]
  | .res3E => [0xCB, 0x9B]
  | .res3H => [0xCB, 0x9C]
  | .res3L => [0xCB, 0x9D]
  | .res3AtHL => [0xCB, 0x9E]
  | .res3A => [0xCB, 0x9F]
  | .res4B => [0xCB, 0xA0]
  | .res4C => [0xCB, 0xA1]
  | .res4D => [0xCB, 0xA2]
  | .res4E => [0xCB, 0xA3]
  | .res4H => [0xCB, 0xA4]
  | .res4L => [0xCB, 0xA5]
  | .res4AtHL => [0xCB, 0xA6]
  | .res4A => [0xCB, 0xA7]
  | .res5B => [0xCB, 0xA8]
  | .res5C => [0xCB, 0xA9]
  | .res5D => [0xCB, 0xAA]
  | .res5E => [0xCB, 0xAB]
  | .res5H => [0xCB, 0xAC]
  | .res5L => [0xCB, 0xAD]
  | .res5AtHL => [0xCB, 0xAE]
  | .res5A => [0xCB, 0xAF]
  | .res6B => [0xCB, 0xB0]
  | .res6C => [0xCB, 0xB1]
  | .res6D => [0xCB, 0xB2]
  | .res6E => [0xCB, 0xB3]
  | .res6H => [0xCB, 0xB4]
  | .res6L => [0xCB, 0xB5]
  | .res6AtHL => [0xCB, 0xB6]
  | .res6A => [0xCB, 0xB7]
  | .res7B => [0xCB, 0xB8]
  | .res7C => [0xCB, 0xB9]
  | .res7D => [0xCB, 0xBA]
  | .res7E => [0xCB, 0xBB]
  | .res7H => [0xCB, 0xBC]
  | .res7L => [0xCB, 0xBD]
  | .res7AtHL => [0xCB, 0xBE]
  | .res7A => [0xCB, 0xBF]
  | .set0B => [0xCB, 0xC0]
  | .set0C => [0xCB, 0xC1]
  | .set0D => [0xCB, 0xC2]
  | .set0E => [0xCB, 0xC3]
  | .set0H => [0xCB, 0xC4]
  | .set0L => [0xCB, 0xC5]
  | .set0AtHL => [0xCB, 0xC6]
  | .set0A => [0xCB, 0xC7]
  | .set1B => [0xCB, 0xC8]
  | .set1C => [0xCB, 0xC9]
  | .set1D => [0xCB, 0xCA]
  | .set1E => [0xCB, 0xCB]
  | .set1H => [0xCB, 0xCC]
  | .set1L => [0xCB, 0xCD]
  | .set1AtHL => [0xCB, 0xCE]
  | .set1A => [0xCB, 0xCF]
  | .set2B => [0xCB, 0xD0]
  | .set2C => [0xCB, 0xD1]
  | .set2D => [0xCB, 0xD2]
  | .set2E => [0xCB, 0xD3]
  | .set2H => [0xCB, 0xD4]
  | .set2L => [0xCB, 0xD5]
  | .set2AtHL => [0xCB, 0xD6]
  | .set2A => [0xCB, 0xD7]
  | .set3B => [0xCB, 0xD8]
  | .set3C => [0xCB, 0xD9]
  | .set3D => [0xCB, 0xDA]
  | .set3E => [0xCB, 0xDB]
  | .set3H => [0xCB, 0xDC]
  | .set3L => [0xCB, 0xDD]
  | .set3AtHL => [0xCB, 0xDE]
  | .set3A => [0xCB, 0xDF]
  | .set4B => [0xCB, 0xE0]
  | .set4C => [0xCB, 0xE1]
  | .set4D => [0xCB, 0xE2]
  | .set4E => [0xCB, 0xE3]
  | .set4H => [0xCB, 0xE4]
  | .set4L => [0xCB, 0xE5]
  | .set4AtHL => [0xCB, 0xE6]
  | .set4A => [0xCB, 0xE7]
  | .set5B => [0xCB, 0xE8]
  | .set5C => [0xCB, 0xE9]
  | .set5D => [0xCB, 0xEA]
  | .set5E => [0xCB, 0xEB]
  | .set5H => [0xCB, 0xEC]
  | .set5L => [0xCB, 0xED]
  | .set5AtHL => [0xCB, 0xEE]
  | .set5A => [0xCB, 0xEF]
  | .set6B => [0xCB, 0xF0]
  | .set6C => [0xCB, 0xF1]
  | .set6D => [0xCB, 0xF2]
  | .set6E => [0xCB, 0xF3]
  | .set6H => [0xCB, 0xF4]
  | .set6L => [0xCB, 0xF5]
  | .set6AtHL => [0xCB, 0xF6]
  | .set6A => [0xCB, 0xF7]
  | .set7B => [0xCB, 0xF8]
  | .set7C => [0xCB, 0xF9]
  | .set7D => [0xCB, 0xFA]
  | .set7E => [0xCB, 0xFB]
  | .set7H => [0xCB, 0xFC]
  | .set7L => [0xCB, 0xFD]
  | .set7AtHL => [0xCB, 0xFE]
  | .set7A => [0xCB, 0xFF]

end Sys2Proof
end

