-- ==== Sys2Proof/Machine/Cb.lean ====
section
/-! DEFINITION. The 0xCB-prefixed rotates, shifts, swaps and bit operations (43_cb_prefix.md R290 to R301). A meaning runs
after both bytes of its instruction have been fetched; the prefix row alone fetches the sub-byte itself. -/

namespace Sys2Proof.Machine

/-- The operand of a 0xCB instruction (R290): a register, or the byte at HL. -/
inductive CbOperand where
  | reg (r : R8)
  | hl
deriving DecidableEq, Repr

/-- Get() (R290). -/
def cbGet : CbOperand → M Byte
  | .reg r => view (·.reg r)
  | .hl => do memRead (← view State.hl)

/-- Put(v) (R290). -/
def cbPut (o : CbOperand) (v : Byte) : M Unit :=
  match o with
  | .reg r => update (·.setReg r v)
  | .hl => do memWrite (← view State.hl) v

/-- The result and the carry of a rotate or shift of `v` with F.C = `c` (R291 to R298). -/
def rotApply (op : RotOp) (v : Byte) (c : Bool) : Byte × Bool :=
  match op with
  | .rlc => rotLC v
  | .rrc => rotRC v
  | .rl => rotL v c
  | .rr => rotR v c
  | .sla => shiftLA v
  | .sra => shiftRA v
  | .swap => swapNibbles v
  | .srl => shiftRL v

/-- A rotate, shift or swap (R291 to R298). -/
def cbRot (op : RotOp) (o : CbOperand) : M Unit := do
  let v ← cbGet o
  let r := rotApply op v (← view (·.flags.c))
  cbPut o r.1
  update (·.setFlags (cbRotFlags r.1 r.2))

/-- BIT b,s (R299): the operand is not written. -/
def cbBit (b : BitVec 3) (o : CbOperand) : M Unit := do
  let v ← cbGet o
  update (fun s => s.setFlags (bitFlags s.flags v b))

/-- RES b,s (R300). -/
def cbRes (b : BitVec 3) (o : CbOperand) : M Unit := do
  let v ← cbGet o
  cbPut o (v &&& ~~~(1#8 <<< b.toNat))

/-- SET b,s (R301). -/
def cbSet (b : BitVec 3) (o : CbOperand) : M Unit := do
  let v ← cbGet o
  cbPut o (v ||| (1#8 <<< b.toNat))

/-- r8[z2] as the operand of a sub-opcode (R126, R290). -/
def cbOperandOf (z2 : BitVec 3) : CbOperand :=
  match r8Of z2 with
  | some r => .reg r
  | none => .hl

/-- The rule that a sub-opcode selects, from its fields x2, b and z2 (R126, R134). -/
def cbRule (op2 : Byte) : M Unit :=
  match fieldX op2 with
  | 0 => cbRot (rotOf (fieldY op2)) (cbOperandOf (fieldZ op2))
  | 1 => cbBit (fieldY op2) (cbOperandOf (fieldZ op2))
  | 2 => cbRes (fieldY op2) (cbOperandOf (fieldZ op2))
  | 3 => cbSet (fieldY op2) (cbOperandOf (fieldZ op2))

/-- The prefix row (R290): fetch the sub-byte, raise DecodeError if it is in EXTRA_DECODE_ERRORS (R136), else run the
rule it selects. -/
def cbPrefixed : M Unit := do
  let op2 ← fetch8
  if (← view (fun s => decide (op2 ∈ s.extra.subs))) then raiseDecode 2 op2 else cbRule op2

/-- The 0xCB prefix (R134, R290). -/
def execCbPrefix (s : State) : Answer := answer (cbPrefixed) s

/-- RLC B (R291). -/
def execRlcB (s : State) : Answer := answer (cbRot .rlc (.reg .b)) s

/-- RLC C (R291). -/
def execRlcC (s : State) : Answer := answer (cbRot .rlc (.reg .c)) s

/-- RLC D (R291). -/
def execRlcD (s : State) : Answer := answer (cbRot .rlc (.reg .d)) s

/-- RLC E (R291). -/
def execRlcE (s : State) : Answer := answer (cbRot .rlc (.reg .e)) s

/-- RLC H (R291). -/
def execRlcH (s : State) : Answer := answer (cbRot .rlc (.reg .h)) s

/-- RLC L (R291). -/
def execRlcL (s : State) : Answer := answer (cbRot .rlc (.reg .l)) s

/-- RLC (HL) (R291). -/
def execRlcAtHL (s : State) : Answer := answer (cbRot .rlc .hl) s

/-- RLC A (R291). -/
def execRlcA (s : State) : Answer := answer (cbRot .rlc (.reg .a)) s

/-- RRC B (R292). -/
def execRrcB (s : State) : Answer := answer (cbRot .rrc (.reg .b)) s

/-- RRC C (R292). -/
def execRrcC (s : State) : Answer := answer (cbRot .rrc (.reg .c)) s

/-- RRC D (R292). -/
def execRrcD (s : State) : Answer := answer (cbRot .rrc (.reg .d)) s

/-- RRC E (R292). -/
def execRrcE (s : State) : Answer := answer (cbRot .rrc (.reg .e)) s

/-- RRC H (R292). -/
def execRrcH (s : State) : Answer := answer (cbRot .rrc (.reg .h)) s

/-- RRC L (R292). -/
def execRrcL (s : State) : Answer := answer (cbRot .rrc (.reg .l)) s

/-- RRC (HL) (R292). -/
def execRrcAtHL (s : State) : Answer := answer (cbRot .rrc .hl) s

/-- RRC A (R292). -/
def execRrcA (s : State) : Answer := answer (cbRot .rrc (.reg .a)) s

/-- RL B (R293). -/
def execRlB (s : State) : Answer := answer (cbRot .rl (.reg .b)) s

/-- RL C (R293). -/
def execRlC (s : State) : Answer := answer (cbRot .rl (.reg .c)) s

/-- RL D (R293). -/
def execRlD (s : State) : Answer := answer (cbRot .rl (.reg .d)) s

/-- RL E (R293). -/
def execRlE (s : State) : Answer := answer (cbRot .rl (.reg .e)) s

/-- RL H (R293). -/
def execRlH (s : State) : Answer := answer (cbRot .rl (.reg .h)) s

/-- RL L (R293). -/
def execRlL (s : State) : Answer := answer (cbRot .rl (.reg .l)) s

/-- RL (HL) (R293). -/
def execRlAtHL (s : State) : Answer := answer (cbRot .rl .hl) s

/-- RL A (R293). -/
def execRlA (s : State) : Answer := answer (cbRot .rl (.reg .a)) s

/-- RR B (R294). -/
def execRrB (s : State) : Answer := answer (cbRot .rr (.reg .b)) s

/-- RR C (R294). -/
def execRrC (s : State) : Answer := answer (cbRot .rr (.reg .c)) s

/-- RR D (R294). -/
def execRrD (s : State) : Answer := answer (cbRot .rr (.reg .d)) s

/-- RR E (R294). -/
def execRrE (s : State) : Answer := answer (cbRot .rr (.reg .e)) s

/-- RR H (R294). -/
def execRrH (s : State) : Answer := answer (cbRot .rr (.reg .h)) s

/-- RR L (R294). -/
def execRrL (s : State) : Answer := answer (cbRot .rr (.reg .l)) s

/-- RR (HL) (R294). -/
def execRrAtHL (s : State) : Answer := answer (cbRot .rr .hl) s

/-- RR A (R294). -/
def execRrA (s : State) : Answer := answer (cbRot .rr (.reg .a)) s

/-- SLA B (R295). -/
def execSlaB (s : State) : Answer := answer (cbRot .sla (.reg .b)) s

/-- SLA C (R295). -/
def execSlaC (s : State) : Answer := answer (cbRot .sla (.reg .c)) s

/-- SLA D (R295). -/
def execSlaD (s : State) : Answer := answer (cbRot .sla (.reg .d)) s

/-- SLA E (R295). -/
def execSlaE (s : State) : Answer := answer (cbRot .sla (.reg .e)) s

/-- SLA H (R295). -/
def execSlaH (s : State) : Answer := answer (cbRot .sla (.reg .h)) s

/-- SLA L (R295). -/
def execSlaL (s : State) : Answer := answer (cbRot .sla (.reg .l)) s

/-- SLA (HL) (R295). -/
def execSlaAtHL (s : State) : Answer := answer (cbRot .sla .hl) s

/-- SLA A (R295). -/
def execSlaA (s : State) : Answer := answer (cbRot .sla (.reg .a)) s

/-- SRA B (R296). -/
def execSraB (s : State) : Answer := answer (cbRot .sra (.reg .b)) s

/-- SRA C (R296). -/
def execSraC (s : State) : Answer := answer (cbRot .sra (.reg .c)) s

/-- SRA D (R296). -/
def execSraD (s : State) : Answer := answer (cbRot .sra (.reg .d)) s

/-- SRA E (R296). -/
def execSraE (s : State) : Answer := answer (cbRot .sra (.reg .e)) s

/-- SRA H (R296). -/
def execSraH (s : State) : Answer := answer (cbRot .sra (.reg .h)) s

/-- SRA L (R296). -/
def execSraL (s : State) : Answer := answer (cbRot .sra (.reg .l)) s

/-- SRA (HL) (R296). -/
def execSraAtHL (s : State) : Answer := answer (cbRot .sra .hl) s

/-- SRA A (R296). -/
def execSraA (s : State) : Answer := answer (cbRot .sra (.reg .a)) s

/-- SWAP B (R297). -/
def execSwapB (s : State) : Answer := answer (cbRot .swap (.reg .b)) s

/-- SWAP C (R297). -/
def execSwapC (s : State) : Answer := answer (cbRot .swap (.reg .c)) s

/-- SWAP D (R297). -/
def execSwapD (s : State) : Answer := answer (cbRot .swap (.reg .d)) s

/-- SWAP E (R297). -/
def execSwapE (s : State) : Answer := answer (cbRot .swap (.reg .e)) s

/-- SWAP H (R297). -/
def execSwapH (s : State) : Answer := answer (cbRot .swap (.reg .h)) s

/-- SWAP L (R297). -/
def execSwapL (s : State) : Answer := answer (cbRot .swap (.reg .l)) s

/-- SWAP (HL) (R297). -/
def execSwapAtHL (s : State) : Answer := answer (cbRot .swap .hl) s

/-- SWAP A (R297). -/
def execSwapA (s : State) : Answer := answer (cbRot .swap (.reg .a)) s

/-- SRL B (R298). -/
def execSrlB (s : State) : Answer := answer (cbRot .srl (.reg .b)) s

/-- SRL C (R298). -/
def execSrlC (s : State) : Answer := answer (cbRot .srl (.reg .c)) s

/-- SRL D (R298). -/
def execSrlD (s : State) : Answer := answer (cbRot .srl (.reg .d)) s

/-- SRL E (R298). -/
def execSrlE (s : State) : Answer := answer (cbRot .srl (.reg .e)) s

/-- SRL H (R298). -/
def execSrlH (s : State) : Answer := answer (cbRot .srl (.reg .h)) s

/-- SRL L (R298). -/
def execSrlL (s : State) : Answer := answer (cbRot .srl (.reg .l)) s

/-- SRL (HL) (R298). -/
def execSrlAtHL (s : State) : Answer := answer (cbRot .srl .hl) s

/-- SRL A (R298). -/
def execSrlA (s : State) : Answer := answer (cbRot .srl (.reg .a)) s

/-- BIT 0,B (R299). -/
def execBit0B (s : State) : Answer := answer (cbBit 0 (.reg .b)) s

/-- BIT 0,C (R299). -/
def execBit0C (s : State) : Answer := answer (cbBit 0 (.reg .c)) s

/-- BIT 0,D (R299). -/
def execBit0D (s : State) : Answer := answer (cbBit 0 (.reg .d)) s

/-- BIT 0,E (R299). -/
def execBit0E (s : State) : Answer := answer (cbBit 0 (.reg .e)) s

/-- BIT 0,H (R299). -/
def execBit0H (s : State) : Answer := answer (cbBit 0 (.reg .h)) s

/-- BIT 0,L (R299). -/
def execBit0L (s : State) : Answer := answer (cbBit 0 (.reg .l)) s

/-- BIT 0,(HL) (R299). -/
def execBit0AtHL (s : State) : Answer := answer (cbBit 0 .hl) s

/-- BIT 0,A (R299). -/
def execBit0A (s : State) : Answer := answer (cbBit 0 (.reg .a)) s

/-- BIT 1,B (R299). -/
def execBit1B (s : State) : Answer := answer (cbBit 1 (.reg .b)) s

/-- BIT 1,C (R299). -/
def execBit1C (s : State) : Answer := answer (cbBit 1 (.reg .c)) s

/-- BIT 1,D (R299). -/
def execBit1D (s : State) : Answer := answer (cbBit 1 (.reg .d)) s

/-- BIT 1,E (R299). -/
def execBit1E (s : State) : Answer := answer (cbBit 1 (.reg .e)) s

/-- BIT 1,H (R299). -/
def execBit1H (s : State) : Answer := answer (cbBit 1 (.reg .h)) s

/-- BIT 1,L (R299). -/
def execBit1L (s : State) : Answer := answer (cbBit 1 (.reg .l)) s

/-- BIT 1,(HL) (R299). -/
def execBit1AtHL (s : State) : Answer := answer (cbBit 1 .hl) s

/-- BIT 1,A (R299). -/
def execBit1A (s : State) : Answer := answer (cbBit 1 (.reg .a)) s

/-- BIT 2,B (R299). -/
def execBit2B (s : State) : Answer := answer (cbBit 2 (.reg .b)) s

/-- BIT 2,C (R299). -/
def execBit2C (s : State) : Answer := answer (cbBit 2 (.reg .c)) s

/-- BIT 2,D (R299). -/
def execBit2D (s : State) : Answer := answer (cbBit 2 (.reg .d)) s

/-- BIT 2,E (R299). -/
def execBit2E (s : State) : Answer := answer (cbBit 2 (.reg .e)) s

/-- BIT 2,H (R299). -/
def execBit2H (s : State) : Answer := answer (cbBit 2 (.reg .h)) s

/-- BIT 2,L (R299). -/
def execBit2L (s : State) : Answer := answer (cbBit 2 (.reg .l)) s

/-- BIT 2,(HL) (R299). -/
def execBit2AtHL (s : State) : Answer := answer (cbBit 2 .hl) s

/-- BIT 2,A (R299). -/
def execBit2A (s : State) : Answer := answer (cbBit 2 (.reg .a)) s

/-- BIT 3,B (R299). -/
def execBit3B (s : State) : Answer := answer (cbBit 3 (.reg .b)) s

/-- BIT 3,C (R299). -/
def execBit3C (s : State) : Answer := answer (cbBit 3 (.reg .c)) s

/-- BIT 3,D (R299). -/
def execBit3D (s : State) : Answer := answer (cbBit 3 (.reg .d)) s

/-- BIT 3,E (R299). -/
def execBit3E (s : State) : Answer := answer (cbBit 3 (.reg .e)) s

/-- BIT 3,H (R299). -/
def execBit3H (s : State) : Answer := answer (cbBit 3 (.reg .h)) s

/-- BIT 3,L (R299). -/
def execBit3L (s : State) : Answer := answer (cbBit 3 (.reg .l)) s

/-- BIT 3,(HL) (R299). -/
def execBit3AtHL (s : State) : Answer := answer (cbBit 3 .hl) s

/-- BIT 3,A (R299). -/
def execBit3A (s : State) : Answer := answer (cbBit 3 (.reg .a)) s

/-- BIT 4,B (R299). -/
def execBit4B (s : State) : Answer := answer (cbBit 4 (.reg .b)) s

/-- BIT 4,C (R299). -/
def execBit4C (s : State) : Answer := answer (cbBit 4 (.reg .c)) s

/-- BIT 4,D (R299). -/
def execBit4D (s : State) : Answer := answer (cbBit 4 (.reg .d)) s

/-- BIT 4,E (R299). -/
def execBit4E (s : State) : Answer := answer (cbBit 4 (.reg .e)) s

/-- BIT 4,H (R299). -/
def execBit4H (s : State) : Answer := answer (cbBit 4 (.reg .h)) s

/-- BIT 4,L (R299). -/
def execBit4L (s : State) : Answer := answer (cbBit 4 (.reg .l)) s

/-- BIT 4,(HL) (R299). -/
def execBit4AtHL (s : State) : Answer := answer (cbBit 4 .hl) s

/-- BIT 4,A (R299). -/
def execBit4A (s : State) : Answer := answer (cbBit 4 (.reg .a)) s

/-- BIT 5,B (R299). -/
def execBit5B (s : State) : Answer := answer (cbBit 5 (.reg .b)) s

/-- BIT 5,C (R299). -/
def execBit5C (s : State) : Answer := answer (cbBit 5 (.reg .c)) s

/-- BIT 5,D (R299). -/
def execBit5D (s : State) : Answer := answer (cbBit 5 (.reg .d)) s

/-- BIT 5,E (R299). -/
def execBit5E (s : State) : Answer := answer (cbBit 5 (.reg .e)) s

/-- BIT 5,H (R299). -/
def execBit5H (s : State) : Answer := answer (cbBit 5 (.reg .h)) s

/-- BIT 5,L (R299). -/
def execBit5L (s : State) : Answer := answer (cbBit 5 (.reg .l)) s

/-- BIT 5,(HL) (R299). -/
def execBit5AtHL (s : State) : Answer := answer (cbBit 5 .hl) s

/-- BIT 5,A (R299). -/
def execBit5A (s : State) : Answer := answer (cbBit 5 (.reg .a)) s

/-- BIT 6,B (R299). -/
def execBit6B (s : State) : Answer := answer (cbBit 6 (.reg .b)) s

/-- BIT 6,C (R299). -/
def execBit6C (s : State) : Answer := answer (cbBit 6 (.reg .c)) s

/-- BIT 6,D (R299). -/
def execBit6D (s : State) : Answer := answer (cbBit 6 (.reg .d)) s

/-- BIT 6,E (R299). -/
def execBit6E (s : State) : Answer := answer (cbBit 6 (.reg .e)) s

/-- BIT 6,H (R299). -/
def execBit6H (s : State) : Answer := answer (cbBit 6 (.reg .h)) s

/-- BIT 6,L (R299). -/
def execBit6L (s : State) : Answer := answer (cbBit 6 (.reg .l)) s

/-- BIT 6,(HL) (R299). -/
def execBit6AtHL (s : State) : Answer := answer (cbBit 6 .hl) s

/-- BIT 6,A (R299). -/
def execBit6A (s : State) : Answer := answer (cbBit 6 (.reg .a)) s

/-- BIT 7,B (R299). -/
def execBit7B (s : State) : Answer := answer (cbBit 7 (.reg .b)) s

/-- BIT 7,C (R299). -/
def execBit7C (s : State) : Answer := answer (cbBit 7 (.reg .c)) s

/-- BIT 7,D (R299). -/
def execBit7D (s : State) : Answer := answer (cbBit 7 (.reg .d)) s

/-- BIT 7,E (R299). -/
def execBit7E (s : State) : Answer := answer (cbBit 7 (.reg .e)) s

/-- BIT 7,H (R299). -/
def execBit7H (s : State) : Answer := answer (cbBit 7 (.reg .h)) s

/-- BIT 7,L (R299). -/
def execBit7L (s : State) : Answer := answer (cbBit 7 (.reg .l)) s

/-- BIT 7,(HL) (R299). -/
def execBit7AtHL (s : State) : Answer := answer (cbBit 7 .hl) s

/-- BIT 7,A (R299). -/
def execBit7A (s : State) : Answer := answer (cbBit 7 (.reg .a)) s

/-- RES 0,B (R300). -/
def execRes0B (s : State) : Answer := answer (cbRes 0 (.reg .b)) s

/-- RES 0,C (R300). -/
def execRes0C (s : State) : Answer := answer (cbRes 0 (.reg .c)) s

/-- RES 0,D (R300). -/
def execRes0D (s : State) : Answer := answer (cbRes 0 (.reg .d)) s

/-- RES 0,E (R300). -/
def execRes0E (s : State) : Answer := answer (cbRes 0 (.reg .e)) s

/-- RES 0,H (R300). -/
def execRes0H (s : State) : Answer := answer (cbRes 0 (.reg .h)) s

/-- RES 0,L (R300). -/
def execRes0L (s : State) : Answer := answer (cbRes 0 (.reg .l)) s

/-- RES 0,(HL) (R300). -/
def execRes0AtHL (s : State) : Answer := answer (cbRes 0 .hl) s

/-- RES 0,A (R300). -/
def execRes0A (s : State) : Answer := answer (cbRes 0 (.reg .a)) s

/-- RES 1,B (R300). -/
def execRes1B (s : State) : Answer := answer (cbRes 1 (.reg .b)) s

/-- RES 1,C (R300). -/
def execRes1C (s : State) : Answer := answer (cbRes 1 (.reg .c)) s

/-- RES 1,D (R300). -/
def execRes1D (s : State) : Answer := answer (cbRes 1 (.reg .d)) s

/-- RES 1,E (R300). -/
def execRes1E (s : State) : Answer := answer (cbRes 1 (.reg .e)) s

/-- RES 1,H (R300). -/
def execRes1H (s : State) : Answer := answer (cbRes 1 (.reg .h)) s

/-- RES 1,L (R300). -/
def execRes1L (s : State) : Answer := answer (cbRes 1 (.reg .l)) s

/-- RES 1,(HL) (R300). -/
def execRes1AtHL (s : State) : Answer := answer (cbRes 1 .hl) s

/-- RES 1,A (R300). -/
def execRes1A (s : State) : Answer := answer (cbRes 1 (.reg .a)) s

/-- RES 2,B (R300). -/
def execRes2B (s : State) : Answer := answer (cbRes 2 (.reg .b)) s

/-- RES 2,C (R300). -/
def execRes2C (s : State) : Answer := answer (cbRes 2 (.reg .c)) s

/-- RES 2,D (R300). -/
def execRes2D (s : State) : Answer := answer (cbRes 2 (.reg .d)) s

/-- RES 2,E (R300). -/
def execRes2E (s : State) : Answer := answer (cbRes 2 (.reg .e)) s

/-- RES 2,H (R300). -/
def execRes2H (s : State) : Answer := answer (cbRes 2 (.reg .h)) s

/-- RES 2,L (R300). -/
def execRes2L (s : State) : Answer := answer (cbRes 2 (.reg .l)) s

/-- RES 2,(HL) (R300). -/
def execRes2AtHL (s : State) : Answer := answer (cbRes 2 .hl) s

/-- RES 2,A (R300). -/
def execRes2A (s : State) : Answer := answer (cbRes 2 (.reg .a)) s

/-- RES 3,B (R300). -/
def execRes3B (s : State) : Answer := answer (cbRes 3 (.reg .b)) s

/-- RES 3,C (R300). -/
def execRes3C (s : State) : Answer := answer (cbRes 3 (.reg .c)) s

/-- RES 3,D (R300). -/
def execRes3D (s : State) : Answer := answer (cbRes 3 (.reg .d)) s

/-- RES 3,E (R300). -/
def execRes3E (s : State) : Answer := answer (cbRes 3 (.reg .e)) s

/-- RES 3,H (R300). -/
def execRes3H (s : State) : Answer := answer (cbRes 3 (.reg .h)) s

/-- RES 3,L (R300). -/
def execRes3L (s : State) : Answer := answer (cbRes 3 (.reg .l)) s

/-- RES 3,(HL) (R300). -/
def execRes3AtHL (s : State) : Answer := answer (cbRes 3 .hl) s

/-- RES 3,A (R300). -/
def execRes3A (s : State) : Answer := answer (cbRes 3 (.reg .a)) s

/-- RES 4,B (R300). -/
def execRes4B (s : State) : Answer := answer (cbRes 4 (.reg .b)) s

/-- RES 4,C (R300). -/
def execRes4C (s : State) : Answer := answer (cbRes 4 (.reg .c)) s

/-- RES 4,D (R300). -/
def execRes4D (s : State) : Answer := answer (cbRes 4 (.reg .d)) s

/-- RES 4,E (R300). -/
def execRes4E (s : State) : Answer := answer (cbRes 4 (.reg .e)) s

/-- RES 4,H (R300). -/
def execRes4H (s : State) : Answer := answer (cbRes 4 (.reg .h)) s

/-- RES 4,L (R300). -/
def execRes4L (s : State) : Answer := answer (cbRes 4 (.reg .l)) s

/-- RES 4,(HL) (R300). -/
def execRes4AtHL (s : State) : Answer := answer (cbRes 4 .hl) s

/-- RES 4,A (R300). -/
def execRes4A (s : State) : Answer := answer (cbRes 4 (.reg .a)) s

/-- RES 5,B (R300). -/
def execRes5B (s : State) : Answer := answer (cbRes 5 (.reg .b)) s

/-- RES 5,C (R300). -/
def execRes5C (s : State) : Answer := answer (cbRes 5 (.reg .c)) s

/-- RES 5,D (R300). -/
def execRes5D (s : State) : Answer := answer (cbRes 5 (.reg .d)) s

/-- RES 5,E (R300). -/
def execRes5E (s : State) : Answer := answer (cbRes 5 (.reg .e)) s

/-- RES 5,H (R300). -/
def execRes5H (s : State) : Answer := answer (cbRes 5 (.reg .h)) s

/-- RES 5,L (R300). -/
def execRes5L (s : State) : Answer := answer (cbRes 5 (.reg .l)) s

/-- RES 5,(HL) (R300). -/
def execRes5AtHL (s : State) : Answer := answer (cbRes 5 .hl) s

/-- RES 5,A (R300). -/
def execRes5A (s : State) : Answer := answer (cbRes 5 (.reg .a)) s

/-- RES 6,B (R300). -/
def execRes6B (s : State) : Answer := answer (cbRes 6 (.reg .b)) s

/-- RES 6,C (R300). -/
def execRes6C (s : State) : Answer := answer (cbRes 6 (.reg .c)) s

/-- RES 6,D (R300). -/
def execRes6D (s : State) : Answer := answer (cbRes 6 (.reg .d)) s

/-- RES 6,E (R300). -/
def execRes6E (s : State) : Answer := answer (cbRes 6 (.reg .e)) s

/-- RES 6,H (R300). -/
def execRes6H (s : State) : Answer := answer (cbRes 6 (.reg .h)) s

/-- RES 6,L (R300). -/
def execRes6L (s : State) : Answer := answer (cbRes 6 (.reg .l)) s

/-- RES 6,(HL) (R300). -/
def execRes6AtHL (s : State) : Answer := answer (cbRes 6 .hl) s

/-- RES 6,A (R300). -/
def execRes6A (s : State) : Answer := answer (cbRes 6 (.reg .a)) s

/-- RES 7,B (R300). -/
def execRes7B (s : State) : Answer := answer (cbRes 7 (.reg .b)) s

/-- RES 7,C (R300). -/
def execRes7C (s : State) : Answer := answer (cbRes 7 (.reg .c)) s

/-- RES 7,D (R300). -/
def execRes7D (s : State) : Answer := answer (cbRes 7 (.reg .d)) s

/-- RES 7,E (R300). -/
def execRes7E (s : State) : Answer := answer (cbRes 7 (.reg .e)) s

/-- RES 7,H (R300). -/
def execRes7H (s : State) : Answer := answer (cbRes 7 (.reg .h)) s

/-- RES 7,L (R300). -/
def execRes7L (s : State) : Answer := answer (cbRes 7 (.reg .l)) s

/-- RES 7,(HL) (R300). -/
def execRes7AtHL (s : State) : Answer := answer (cbRes 7 .hl) s

/-- RES 7,A (R300). -/
def execRes7A (s : State) : Answer := answer (cbRes 7 (.reg .a)) s

/-- SET 0,B (R301). -/
def execSet0B (s : State) : Answer := answer (cbSet 0 (.reg .b)) s

/-- SET 0,C (R301). -/
def execSet0C (s : State) : Answer := answer (cbSet 0 (.reg .c)) s

/-- SET 0,D (R301). -/
def execSet0D (s : State) : Answer := answer (cbSet 0 (.reg .d)) s

/-- SET 0,E (R301). -/
def execSet0E (s : State) : Answer := answer (cbSet 0 (.reg .e)) s

/-- SET 0,H (R301). -/
def execSet0H (s : State) : Answer := answer (cbSet 0 (.reg .h)) s

/-- SET 0,L (R301). -/
def execSet0L (s : State) : Answer := answer (cbSet 0 (.reg .l)) s

/-- SET 0,(HL) (R301). -/
def execSet0AtHL (s : State) : Answer := answer (cbSet 0 .hl) s

/-- SET 0,A (R301). -/
def execSet0A (s : State) : Answer := answer (cbSet 0 (.reg .a)) s

/-- SET 1,B (R301). -/
def execSet1B (s : State) : Answer := answer (cbSet 1 (.reg .b)) s

/-- SET 1,C (R301). -/
def execSet1C (s : State) : Answer := answer (cbSet 1 (.reg .c)) s

/-- SET 1,D (R301). -/
def execSet1D (s : State) : Answer := answer (cbSet 1 (.reg .d)) s

/-- SET 1,E (R301). -/
def execSet1E (s : State) : Answer := answer (cbSet 1 (.reg .e)) s

/-- SET 1,H (R301). -/
def execSet1H (s : State) : Answer := answer (cbSet 1 (.reg .h)) s

/-- SET 1,L (R301). -/
def execSet1L (s : State) : Answer := answer (cbSet 1 (.reg .l)) s

/-- SET 1,(HL) (R301). -/
def execSet1AtHL (s : State) : Answer := answer (cbSet 1 .hl) s

/-- SET 1,A (R301). -/
def execSet1A (s : State) : Answer := answer (cbSet 1 (.reg .a)) s

/-- SET 2,B (R301). -/
def execSet2B (s : State) : Answer := answer (cbSet 2 (.reg .b)) s

/-- SET 2,C (R301). -/
def execSet2C (s : State) : Answer := answer (cbSet 2 (.reg .c)) s

/-- SET 2,D (R301). -/
def execSet2D (s : State) : Answer := answer (cbSet 2 (.reg .d)) s

/-- SET 2,E (R301). -/
def execSet2E (s : State) : Answer := answer (cbSet 2 (.reg .e)) s

/-- SET 2,H (R301). -/
def execSet2H (s : State) : Answer := answer (cbSet 2 (.reg .h)) s

/-- SET 2,L (R301). -/
def execSet2L (s : State) : Answer := answer (cbSet 2 (.reg .l)) s

/-- SET 2,(HL) (R301). -/
def execSet2AtHL (s : State) : Answer := answer (cbSet 2 .hl) s

/-- SET 2,A (R301). -/
def execSet2A (s : State) : Answer := answer (cbSet 2 (.reg .a)) s

/-- SET 3,B (R301). -/
def execSet3B (s : State) : Answer := answer (cbSet 3 (.reg .b)) s

/-- SET 3,C (R301). -/
def execSet3C (s : State) : Answer := answer (cbSet 3 (.reg .c)) s

/-- SET 3,D (R301). -/
def execSet3D (s : State) : Answer := answer (cbSet 3 (.reg .d)) s

/-- SET 3,E (R301). -/
def execSet3E (s : State) : Answer := answer (cbSet 3 (.reg .e)) s

/-- SET 3,H (R301). -/
def execSet3H (s : State) : Answer := answer (cbSet 3 (.reg .h)) s

/-- SET 3,L (R301). -/
def execSet3L (s : State) : Answer := answer (cbSet 3 (.reg .l)) s

/-- SET 3,(HL) (R301). -/
def execSet3AtHL (s : State) : Answer := answer (cbSet 3 .hl) s

/-- SET 3,A (R301). -/
def execSet3A (s : State) : Answer := answer (cbSet 3 (.reg .a)) s

/-- SET 4,B (R301). -/
def execSet4B (s : State) : Answer := answer (cbSet 4 (.reg .b)) s

/-- SET 4,C (R301). -/
def execSet4C (s : State) : Answer := answer (cbSet 4 (.reg .c)) s

/-- SET 4,D (R301). -/
def execSet4D (s : State) : Answer := answer (cbSet 4 (.reg .d)) s

/-- SET 4,E (R301). -/
def execSet4E (s : State) : Answer := answer (cbSet 4 (.reg .e)) s

/-- SET 4,H (R301). -/
def execSet4H (s : State) : Answer := answer (cbSet 4 (.reg .h)) s

/-- SET 4,L (R301). -/
def execSet4L (s : State) : Answer := answer (cbSet 4 (.reg .l)) s

/-- SET 4,(HL) (R301). -/
def execSet4AtHL (s : State) : Answer := answer (cbSet 4 .hl) s

/-- SET 4,A (R301). -/
def execSet4A (s : State) : Answer := answer (cbSet 4 (.reg .a)) s

/-- SET 5,B (R301). -/
def execSet5B (s : State) : Answer := answer (cbSet 5 (.reg .b)) s

/-- SET 5,C (R301). -/
def execSet5C (s : State) : Answer := answer (cbSet 5 (.reg .c)) s

/-- SET 5,D (R301). -/
def execSet5D (s : State) : Answer := answer (cbSet 5 (.reg .d)) s

/-- SET 5,E (R301). -/
def execSet5E (s : State) : Answer := answer (cbSet 5 (.reg .e)) s

/-- SET 5,H (R301). -/
def execSet5H (s : State) : Answer := answer (cbSet 5 (.reg .h)) s

/-- SET 5,L (R301). -/
def execSet5L (s : State) : Answer := answer (cbSet 5 (.reg .l)) s

/-- SET 5,(HL) (R301). -/
def execSet5AtHL (s : State) : Answer := answer (cbSet 5 .hl) s

/-- SET 5,A (R301). -/
def execSet5A (s : State) : Answer := answer (cbSet 5 (.reg .a)) s

/-- SET 6,B (R301). -/
def execSet6B (s : State) : Answer := answer (cbSet 6 (.reg .b)) s

/-- SET 6,C (R301). -/
def execSet6C (s : State) : Answer := answer (cbSet 6 (.reg .c)) s

/-- SET 6,D (R301). -/
def execSet6D (s : State) : Answer := answer (cbSet 6 (.reg .d)) s

/-- SET 6,E (R301). -/
def execSet6E (s : State) : Answer := answer (cbSet 6 (.reg .e)) s

/-- SET 6,H (R301). -/
def execSet6H (s : State) : Answer := answer (cbSet 6 (.reg .h)) s

/-- SET 6,L (R301). -/
def execSet6L (s : State) : Answer := answer (cbSet 6 (.reg .l)) s

/-- SET 6,(HL) (R301). -/
def execSet6AtHL (s : State) : Answer := answer (cbSet 6 .hl) s

/-- SET 6,A (R301). -/
def execSet6A (s : State) : Answer := answer (cbSet 6 (.reg .a)) s

/-- SET 7,B (R301). -/
def execSet7B (s : State) : Answer := answer (cbSet 7 (.reg .b)) s

/-- SET 7,C (R301). -/
def execSet7C (s : State) : Answer := answer (cbSet 7 (.reg .c)) s

/-- SET 7,D (R301). -/
def execSet7D (s : State) : Answer := answer (cbSet 7 (.reg .d)) s

/-- SET 7,E (R301). -/
def execSet7E (s : State) : Answer := answer (cbSet 7 (.reg .e)) s

/-- SET 7,H (R301). -/
def execSet7H (s : State) : Answer := answer (cbSet 7 (.reg .h)) s

/-- SET 7,L (R301). -/
def execSet7L (s : State) : Answer := answer (cbSet 7 (.reg .l)) s

/-- SET 7,(HL) (R301). -/
def execSet7AtHL (s : State) : Answer := answer (cbSet 7 .hl) s

/-- SET 7,A (R301). -/
def execSet7A (s : State) : Answer := answer (cbSet 7 (.reg .a)) s

end Sys2Proof.Machine
end

