-- ==== Sys2Proof/Machine/Control.lean ====
section
/-! DEFINITION. Control transfer (42_control.md R270 to R281). A meaning runs after all bytes of its instruction have been
fetched, so PC is already the address after it (10_state.md R34). -/

namespace Sys2Proof.Machine

/-- JP nn (R271). -/
def jpAbs (nn : Word) : M Unit := do
  tick
  update (·.setPc nn)

/-- `m` if the condition holds, else nothing (R272, R275, R277). -/
def ifCond (cc : Cond) (m : M Unit) : M Unit := do
  if (← view (·.cond cc)) then m else pure ()

/-- JP HL (R273): no internal tick. -/
def jpHl : M Unit := update (fun s => s.setPc s.hl)

/-- JR e (R274): relative to the address after the JR, modulo 2^16. -/
def jrRel (u : Byte) : M Unit := do
  tick
  update (fun s => s.setPc (s.regs.pc + sext16 u))

/-- Tick(); Push16(PC); PC <- a (R276, R281). -/
def callAbs (a : Word) : M Unit := do
  tick
  push16 (← view (·.regs.pc))
  update (·.setPc a)

/-- RET (R278). -/
def retPop : M Unit := do
  let a ← pop16
  tick
  update (·.setPc a)

/-- RET cc (R279): the first tick is charged either way. -/
def retIf (cc : Cond) : M Unit := do
  tick
  ifCond cc retPop

/-- JR e (R274). -/
def execJre (e : Byte) (s : State) : Answer := answer (jrRel e) s

/-- JR NZ,e (R275). -/
def execJrNZe (e : Byte) (s : State) : Answer := answer (ifCond .nz (jrRel e)) s

/-- JR Z,e (R275). -/
def execJrZe (e : Byte) (s : State) : Answer := answer (ifCond .z (jrRel e)) s

/-- JR NC,e (R275). -/
def execJrNCe (e : Byte) (s : State) : Answer := answer (ifCond .nc (jrRel e)) s

/-- JR C,e (R275). -/
def execJrCe (e : Byte) (s : State) : Answer := answer (ifCond .c (jrRel e)) s

/-- RET NZ (R279). -/
def execRetNZ (s : State) : Answer := answer (retIf .nz) s

/-- JP NZ,nn (R272). -/
def execJpNZnn (nn : Word) (s : State) : Answer := answer (ifCond .nz (jpAbs nn)) s

/-- JP nn (R271). -/
def execJpnn (nn : Word) (s : State) : Answer := answer (jpAbs nn) s

/-- CALL NZ,nn (R277). -/
def execCallNZnn (nn : Word) (s : State) : Answer := answer (ifCond .nz (callAbs nn)) s

/-- RST 00h (R281). -/
def execRst00 (s : State) : Answer := answer (callAbs 0x0000) s

/-- RET Z (R279). -/
def execRetZ (s : State) : Answer := answer (retIf .z) s

/-- RET (R278). -/
def execRet (s : State) : Answer := answer (retPop) s

/-- JP Z,nn (R272). -/
def execJpZnn (nn : Word) (s : State) : Answer := answer (ifCond .z (jpAbs nn)) s

/-- CALL Z,nn (R277). -/
def execCallZnn (nn : Word) (s : State) : Answer := answer (ifCond .z (callAbs nn)) s

/-- CALL nn (R276). -/
def execCallnn (nn : Word) (s : State) : Answer := answer (callAbs nn) s

/-- RST 08h (R281). -/
def execRst08 (s : State) : Answer := answer (callAbs 0x0008) s

/-- RET NC (R279). -/
def execRetNC (s : State) : Answer := answer (retIf .nc) s

/-- JP NC,nn (R272). -/
def execJpNCnn (nn : Word) (s : State) : Answer := answer (ifCond .nc (jpAbs nn)) s

/-- CALL NC,nn (R277). -/
def execCallNCnn (nn : Word) (s : State) : Answer := answer (ifCond .nc (callAbs nn)) s

/-- RST 10h (R281). -/
def execRst10 (s : State) : Answer := answer (callAbs 0x0010) s

/-- RET C (R279). -/
def execRetC (s : State) : Answer := answer (retIf .c) s

/-- RETI (R280). -/
def execReti (s : State) : Answer := answer (returnFromInterrupt) s

/-- JP C,nn (R272). -/
def execJpCnn (nn : Word) (s : State) : Answer := answer (ifCond .c (jpAbs nn)) s

/-- CALL C,nn (R277). -/
def execCallCnn (nn : Word) (s : State) : Answer := answer (ifCond .c (callAbs nn)) s

/-- RST 18h (R281). -/
def execRst18 (s : State) : Answer := answer (callAbs 0x0018) s

/-- RST 20h (R281). -/
def execRst20 (s : State) : Answer := answer (callAbs 0x0020) s

/-- JP HL (R273). -/
def execJpHL (s : State) : Answer := answer (jpHl) s

/-- RST 28h (R281). -/
def execRst28 (s : State) : Answer := answer (callAbs 0x0028) s

/-- RST 30h (R281). -/
def execRst30 (s : State) : Answer := answer (callAbs 0x0030) s

/-- RST 38h (R281). -/
def execRst38 (s : State) : Answer := answer (callAbs 0x0038) s

end Sys2Proof.Machine
end

