-- ==== Sys2Proof/Machine/Loads.lean ====
section
/-! DEFINITION. Loads, stores, 16-bit loads and the stack (40_loads.md R201 to R226). A meaning runs after all bytes of its
instruction have been fetched (60_exceptions.md R404; Machine/Fetch.lean). -/

namespace Sys2Proof.Machine

/-- R[dst] <- R[src] (R201). -/
def ldRegReg (dst src : R8) : M Unit := update (fun s => s.setReg dst (s.reg src))

/-- R[dst] <- n (R202). -/
def ldRegImm (dst : R8) (n : Byte) : M Unit := update (·.setReg dst n)

/-- R[dst] <- MemRead(a), the address taken before the write (R203, R206, R207, R210, R212, R214). -/
def ldRegMem (dst : R8) (addr : State → Word) : M Unit := do
  let v ← memRead (← view addr)
  update (·.setReg dst v)

/-- MemWrite(a, R[src]) (R204, R208, R209, R211, R213, R215). -/
def ldMemReg (addr : State → Word) (src : R8) : M Unit := do
  memWrite (← view addr) (← view (·.reg src))

/-- MemWrite(HL, n) (R205). -/
def ldHlImm (n : Byte) : M Unit := do
  memWrite (← view State.hl) n

/-- MemWrite(HL, A), then HL <- HL + delta (R216, R217). -/
def ldHlStepA (delta : Word) : M Unit := do
  ldMemReg State.hl .a
  update (fun s => s.setHl (s.hl + delta))

/-- A <- MemRead(HL), then HL <- HL + delta (R218, R219). -/
def ldAHlStep (delta : Word) : M Unit := do
  ldRegMem .a State.hl
  update (fun s => s.setHl (s.hl + delta))

/-- R[rp] <- nn (R220). -/
def ldPairImm (p : Rp) (nn : Word) : M Unit := update (·.setRp p nn)

/-- LD (nn),SP (R221): the low byte at nn, the high byte at nn + 1 modulo 2^16. -/
def ldMemSp (nn : Word) : M Unit := do
  memWrite nn (loByte (← view (·.regs.sp)))
  memWrite (nn + 1) (hiByte (← view (·.regs.sp)))

/-- LD SP,HL (R222). -/
def ldSpHl : M Unit := do
  tick
  update (fun s => s.setSp s.hl)

/-- LD HL,SP+e (R223). -/
def ldHlSpE (u : Byte) : M Unit := do
  tick
  update (fun s => (s.setHl (addSpE s.regs.sp u).1).setFlags (addSpE s.regs.sp u).2)

/-- PUSH (R224). -/
def pushPair (p : Rp2) : M Unit := do
  tick
  push16 (← view (·.rp2 p))

/-- POP (R225, R226). -/
def popPair (p : Rp2) : M Unit := do
  let v ← pop16
  update (·.setRp2 p v)

/-- LD BC,nn (R220). -/
def execLdBCnn (nn : Word) (s : State) : Answer := answer (ldPairImm .bc nn) s

/-- LD (BC),A (R208). -/
def execLdAtBCA (s : State) : Answer := answer (ldMemReg State.bc .a) s

/-- LD B,n (R202). -/
def execLdBn (n : Byte) (s : State) : Answer := answer (ldRegImm .b n) s

/-- LD (nn),SP (R221). -/
def execLdAtNnSP (nn : Word) (s : State) : Answer := answer (ldMemSp nn) s

/-- LD A,(BC) (R206). -/
def execLdAAtBC (s : State) : Answer := answer (ldRegMem .a State.bc) s

/-- LD C,n (R202). -/
def execLdCn (n : Byte) (s : State) : Answer := answer (ldRegImm .c n) s

/-- LD DE,nn (R220). -/
def execLdDEnn (nn : Word) (s : State) : Answer := answer (ldPairImm .de nn) s

/-- LD (DE),A (R209). -/
def execLdAtDEA (s : State) : Answer := answer (ldMemReg State.de .a) s

/-- LD D,n (R202). -/
def execLdDn (n : Byte) (s : State) : Answer := answer (ldRegImm .d n) s

/-- LD A,(DE) (R207). -/
def execLdAAtDE (s : State) : Answer := answer (ldRegMem .a State.de) s

/-- LD E,n (R202). -/
def execLdEn (n : Byte) (s : State) : Answer := answer (ldRegImm .e n) s

/-- LD HL,nn (R220). -/
def execLdHLnn (nn : Word) (s : State) : Answer := answer (ldPairImm .hl nn) s

/-- LD (HL+),A (R216). -/
def execLdAtHLIncA (s : State) : Answer := answer (ldHlStepA 1) s

/-- LD H,n (R202). -/
def execLdHn (n : Byte) (s : State) : Answer := answer (ldRegImm .h n) s

/-- LD A,(HL+) (R218). -/
def execLdAAtHLInc (s : State) : Answer := answer (ldAHlStep 1) s

/-- LD L,n (R202). -/
def execLdLn (n : Byte) (s : State) : Answer := answer (ldRegImm .l n) s

/-- LD SP,nn (R220). -/
def execLdSPnn (nn : Word) (s : State) : Answer := answer (ldPairImm .sp nn) s

/-- LD (HL-),A (R217). -/
def execLdAtHLDecA (s : State) : Answer := answer (ldHlStepA (-1)) s

/-- LD (HL),n (R205). -/
def execLdAtHLn (n : Byte) (s : State) : Answer := answer (ldHlImm n) s

/-- LD A,(HL-) (R219). -/
def execLdAAtHLDec (s : State) : Answer := answer (ldAHlStep (-1)) s

/-- LD A,n (R202). -/
def execLdAn (n : Byte) (s : State) : Answer := answer (ldRegImm .a n) s

/-- LD B,B (R201). -/
def execLdBB (s : State) : Answer := answer (ldRegReg .b .b) s

/-- LD B,C (R201). -/
def execLdBC (s : State) : Answer := answer (ldRegReg .b .c) s

/-- LD B,D (R201). -/
def execLdBD (s : State) : Answer := answer (ldRegReg .b .d) s

/-- LD B,E (R201). -/
def execLdBE (s : State) : Answer := answer (ldRegReg .b .e) s

/-- LD B,H (R201). -/
def execLdBH (s : State) : Answer := answer (ldRegReg .b .h) s

/-- LD B,L (R201). -/
def execLdBL (s : State) : Answer := answer (ldRegReg .b .l) s

/-- LD B,(HL) (R203). -/
def execLdBAtHL (s : State) : Answer := answer (ldRegMem .b State.hl) s

/-- LD B,A (R201). -/
def execLdBA (s : State) : Answer := answer (ldRegReg .b .a) s

/-- LD C,B (R201). -/
def execLdCB (s : State) : Answer := answer (ldRegReg .c .b) s

/-- LD C,C (R201). -/
def execLdCC (s : State) : Answer := answer (ldRegReg .c .c) s

/-- LD C,D (R201). -/
def execLdCD (s : State) : Answer := answer (ldRegReg .c .d) s

/-- LD C,E (R201). -/
def execLdCE (s : State) : Answer := answer (ldRegReg .c .e) s

/-- LD C,H (R201). -/
def execLdCH (s : State) : Answer := answer (ldRegReg .c .h) s

/-- LD C,L (R201). -/
def execLdCL (s : State) : Answer := answer (ldRegReg .c .l) s

/-- LD C,(HL) (R203). -/
def execLdCAtHL (s : State) : Answer := answer (ldRegMem .c State.hl) s

/-- LD C,A (R201). -/
def execLdCA (s : State) : Answer := answer (ldRegReg .c .a) s

/-- LD D,B (R201). -/
def execLdDB (s : State) : Answer := answer (ldRegReg .d .b) s

/-- LD D,C (R201). -/
def execLdDC (s : State) : Answer := answer (ldRegReg .d .c) s

/-- LD D,D (R201). -/
def execLdDD (s : State) : Answer := answer (ldRegReg .d .d) s

/-- LD D,E (R201). -/
def execLdDE (s : State) : Answer := answer (ldRegReg .d .e) s

/-- LD D,H (R201). -/
def execLdDH (s : State) : Answer := answer (ldRegReg .d .h) s

/-- LD D,L (R201). -/
def execLdDL (s : State) : Answer := answer (ldRegReg .d .l) s

/-- LD D,(HL) (R203). -/
def execLdDAtHL (s : State) : Answer := answer (ldRegMem .d State.hl) s

/-- LD D,A (R201). -/
def execLdDA (s : State) : Answer := answer (ldRegReg .d .a) s

/-- LD E,B (R201). -/
def execLdEB (s : State) : Answer := answer (ldRegReg .e .b) s

/-- LD E,C (R201). -/
def execLdEC (s : State) : Answer := answer (ldRegReg .e .c) s

/-- LD E,D (R201). -/
def execLdED (s : State) : Answer := answer (ldRegReg .e .d) s

/-- LD E,E (R201). -/
def execLdEE (s : State) : Answer := answer (ldRegReg .e .e) s

/-- LD E,H (R201). -/
def execLdEH (s : State) : Answer := answer (ldRegReg .e .h) s

/-- LD E,L (R201). -/
def execLdEL (s : State) : Answer := answer (ldRegReg .e .l) s

/-- LD E,(HL) (R203). -/
def execLdEAtHL (s : State) : Answer := answer (ldRegMem .e State.hl) s

/-- LD E,A (R201). -/
def execLdEA (s : State) : Answer := answer (ldRegReg .e .a) s

/-- LD H,B (R201). -/
def execLdHB (s : State) : Answer := answer (ldRegReg .h .b) s

/-- LD H,C (R201). -/
def execLdHC (s : State) : Answer := answer (ldRegReg .h .c) s

/-- LD H,D (R201). -/
def execLdHD (s : State) : Answer := answer (ldRegReg .h .d) s

/-- LD H,E (R201). -/
def execLdHE (s : State) : Answer := answer (ldRegReg .h .e) s

/-- LD H,H (R201). -/
def execLdHH (s : State) : Answer := answer (ldRegReg .h .h) s

/-- LD H,L (R201). -/
def execLdHL (s : State) : Answer := answer (ldRegReg .h .l) s

/-- LD H,(HL) (R203). -/
def execLdHAtHL (s : State) : Answer := answer (ldRegMem .h State.hl) s

/-- LD H,A (R201). -/
def execLdHA (s : State) : Answer := answer (ldRegReg .h .a) s

/-- LD L,B (R201). -/
def execLdLB (s : State) : Answer := answer (ldRegReg .l .b) s

/-- LD L,C (R201). -/
def execLdLC (s : State) : Answer := answer (ldRegReg .l .c) s

/-- LD L,D (R201). -/
def execLdLD (s : State) : Answer := answer (ldRegReg .l .d) s

/-- LD L,E (R201). -/
def execLdLE (s : State) : Answer := answer (ldRegReg .l .e) s

/-- LD L,H (R201). -/
def execLdLH (s : State) : Answer := answer (ldRegReg .l .h) s

/-- LD L,L (R201). -/
def execLdLL (s : State) : Answer := answer (ldRegReg .l .l) s

/-- LD L,(HL) (R203). -/
def execLdLAtHL (s : State) : Answer := answer (ldRegMem .l State.hl) s

/-- LD L,A (R201). -/
def execLdLA (s : State) : Answer := answer (ldRegReg .l .a) s

/-- LD (HL),B (R204). -/
def execLdAtHLB (s : State) : Answer := answer (ldMemReg State.hl .b) s

/-- LD (HL),C (R204). -/
def execLdAtHLC (s : State) : Answer := answer (ldMemReg State.hl .c) s

/-- LD (HL),D (R204). -/
def execLdAtHLD (s : State) : Answer := answer (ldMemReg State.hl .d) s

/-- LD (HL),E (R204). -/
def execLdAtHLE (s : State) : Answer := answer (ldMemReg State.hl .e) s

/-- LD (HL),H (R204). -/
def execLdAtHLH (s : State) : Answer := answer (ldMemReg State.hl .h) s

/-- LD (HL),L (R204). -/
def execLdAtHLL (s : State) : Answer := answer (ldMemReg State.hl .l) s

/-- LD (HL),A (R204). -/
def execLdAtHLA (s : State) : Answer := answer (ldMemReg State.hl .a) s

/-- LD A,B (R201). -/
def execLdAB (s : State) : Answer := answer (ldRegReg .a .b) s

/-- LD A,C (R201). -/
def execLdAC (s : State) : Answer := answer (ldRegReg .a .c) s

/-- LD A,D (R201). -/
def execLdAD (s : State) : Answer := answer (ldRegReg .a .d) s

/-- LD A,E (R201). -/
def execLdAE (s : State) : Answer := answer (ldRegReg .a .e) s

/-- LD A,H (R201). -/
def execLdAH (s : State) : Answer := answer (ldRegReg .a .h) s

/-- LD A,L (R201). -/
def execLdAL (s : State) : Answer := answer (ldRegReg .a .l) s

/-- LD A,(HL) (R203). -/
def execLdAAtHL (s : State) : Answer := answer (ldRegMem .a State.hl) s

/-- LD A,A (R201). -/
def execLdAA (s : State) : Answer := answer (ldRegReg .a .a) s

/-- POP BC (R225). -/
def execPopBC (s : State) : Answer := answer (popPair .bc) s

/-- PUSH BC (R224). -/
def execPushBC (s : State) : Answer := answer (pushPair .bc) s

/-- POP DE (R225). -/
def execPopDE (s : State) : Answer := answer (popPair .de) s

/-- PUSH DE (R224). -/
def execPushDE (s : State) : Answer := answer (pushPair .de) s

/-- LDH (n),A (R213). -/
def execLdhAtNA (n : Byte) (s : State) : Answer := answer (ldMemReg (fun _ => highPage n) .a) s

/-- POP HL (R225). -/
def execPopHL (s : State) : Answer := answer (popPair .hl) s

/-- LD (C),A (R215). -/
def execLdAtCA (s : State) : Answer := answer (ldMemReg (fun s => highPage s.regs.c) .a) s

/-- PUSH HL (R224). -/
def execPushHL (s : State) : Answer := answer (pushPair .hl) s

/-- LD (nn),A (R211). -/
def execLdAtNnA (nn : Word) (s : State) : Answer := answer (ldMemReg (fun _ => nn) .a) s

/-- LDH A,(n) (R212). -/
def execLdhAAtN (n : Byte) (s : State) : Answer := answer (ldRegMem .a (fun _ => highPage n)) s

/-- POP AF (R226). -/
def execPopAF (s : State) : Answer := answer (popPair .af) s

/-- LD A,(C) (R214). -/
def execLdAAtC (s : State) : Answer := answer (ldRegMem .a (fun s => highPage s.regs.c)) s

/-- PUSH AF (R224). -/
def execPushAF (s : State) : Answer := answer (pushPair .af) s

/-- LD HL,SP+e (R223). -/
def execLdHLSPe (e : Byte) (s : State) : Answer := answer (ldHlSpE e) s

/-- LD SP,HL (R222). -/
def execLdSPHL (s : State) : Answer := answer (ldSpHl) s

/-- LD A,(nn) (R210). -/
def execLdAAtNn (nn : Word) (s : State) : Answer := answer (ldRegMem .a (fun _ => nn)) s

end Sys2Proof.Machine
end

