-- ==== Sys2Proof/Machine/System.lean ====
section
/-! DEFINITION. System and interrupt-control instructions and the unused opcode bytes (44_system.md R310 to R315). A meaning
runs after all bytes of its instruction have been fetched. -/

namespace Sys2Proof.Machine

/-- HALT (R311): halts with IME = 1, does nothing with IME = 0. -/
def haltOp : M Unit := update (fun s => if s.ime then s.setHalted true else s)

/-- STOP (R312): DecodeError for a nonzero trailing byte, otherwise nothing. -/
def stopOp (u : Byte) : M Unit := if u = 0x00 then pure () else raiseDecode 2 u

/-- DI and EI (R313, R314): at once. -/
def setImeOp (b : Bool) : M Unit := update (·.setIme b)

/-- An unused opcode byte (R315). -/
def unusedOp (op : Byte) : M Unit := raiseDecode 1 op

/-- NOP (R310). -/
def execNop (s : State) : Answer := answer (pure ()) s

/-- STOP (R312). -/
def execStop (u : Byte) (s : State) : Answer := answer (stopOp u) s

/-- HALT (R311). -/
def execHalt (s : State) : Answer := answer (haltOp) s

/-- The unused byte 0xD3 (R315). -/
def execUnusedD3 (s : State) : Answer := answer (unusedOp 0xD3) s

/-- The unused byte 0xDB (R315). -/
def execUnusedDB (s : State) : Answer := answer (unusedOp 0xDB) s

/-- The unused byte 0xDD (R315). -/
def execUnusedDD (s : State) : Answer := answer (unusedOp 0xDD) s

/-- The unused byte 0xE3 (R315). -/
def execUnusedE3 (s : State) : Answer := answer (unusedOp 0xE3) s

/-- The unused byte 0xE4 (R315). -/
def execUnusedE4 (s : State) : Answer := answer (unusedOp 0xE4) s

/-- The unused byte 0xEB (R315). -/
def execUnusedEB (s : State) : Answer := answer (unusedOp 0xEB) s

/-- The unused byte 0xEC (R315). -/
def execUnusedEC (s : State) : Answer := answer (unusedOp 0xEC) s

/-- The unused byte 0xED (R315). -/
def execUnusedED (s : State) : Answer := answer (unusedOp 0xED) s

/-- DI (R313). -/
def execDi (s : State) : Answer := answer (setImeOp false) s

/-- The unused byte 0xF4 (R315). -/
def execUnusedF4 (s : State) : Answer := answer (unusedOp 0xF4) s

/-- EI (R314). -/
def execEi (s : State) : Answer := answer (setImeOp true) s

/-- The unused byte 0xFC (R315). -/
def execUnusedFC (s : State) : Answer := answer (unusedOp 0xFC) s

/-- The unused byte 0xFD (R315). -/
def execUnusedFD (s : State) : Answer := answer (unusedOp 0xFD) s

end Sys2Proof.Machine
end

