-- ==== Sys2Proof/Machine/Fetch.lean ====
section
/-! DEFINITION. What a step does around an instruction: fetching and decoding it, the halted cycle, advancing the devices
and the dispatch check (60_exceptions.md R402 to R405, R409). Also where an instruction is placed to be fetched. -/

namespace Sys2Proof.Machine

/-- Fetches the `n` operand bytes of an instruction in order; the bytes it does not have are 0 (R120, R137). -/
def fetchOperands : (n : Nat) → M (Byte × Byte)
  | 0 => pure (0, 0)
  | 1 => do
    let b1 ← fetch8
    return (b1, 0)
  | _ + 2 => do
    let b1 ← fetch8
    let b2 ← fetch8
    return (b1, b2)

/-- The instruction of the bytes fetched; STOP with a nonzero trailing byte raises DecodeError (R312). -/
def decodeOrRaise (op b1 b2 : Byte) : M Instr :=
  match decodeOp op b1 b2 with
  | .ok i => pure i
  | .error (.stopTrailing u) => raiseDecode 2 u
  | .error .truncated => raiseDecode 1 op

/-- The fetch and decode half of FetchDecodeExecute() (R404): the opcode byte, its check against EXTRA_DECODE_ERRORS
(R136, R315), the bytes after it, and for 0xCB the check of the sub-byte (R290). -/
def fetchInstr : M Instr := do
  let op ← fetch8
  if (← view (fun s => decide (op ∈ s.extra.ops))) then raiseDecode 1 op
  else
    let (b1, b2) ← fetchOperands (operandBytes op)
    if (← view (fun s => op = 0xCB && decide (b1 ∈ s.extra.subs))) then raiseDecode 2 b1
    else decodeOrRaise op b1 b2

/-- The devices advance by the step's cost so far, Timer first (R405). -/
def advanceDevices (s : State) : State := ppuUpdate s.cyc (timerUpdate s.cyc s)

/-- The dispatch check (R402, R409): at most one interrupt, and only with IME = 1. Its cycles are added to cyc and never
fed to the devices (R412). DEDUCED (log 16): where the dispatch's push raises an error, what stands before it in R402 and
R410 stays: the device advance, the cleared IF bit, IME and halted. -/
def dispatchCheck (s : State) : Answer :=
  if s.ime then
    match pendingInterrupt s.ie s.ifr with
    | some i => answer (dispatch i) s
    | none => .next s
  else .next s

/-- What Step() does after the instruction or the halted cycle (R402): nothing more after a fault (R401), else the
device advance and the dispatch check. DEDUCED (log 16): an error raised by the dispatch's push keeps the advance, which
R402 makes before the dispatch; R401's "not advanced" is read of an error raised before the advance. -/
def afterExec (s : State) : Answer :=
  match s.fault with
  | some _ => .next s
  | none => dispatchCheck (advanceDevices s)

/-- `afterExec` on the state an instruction left. -/
def Answer.andThen (x : Answer) (k : State → Answer) : Answer :=
  match x with
  | .next s => k s
  | .fault f => .fault f
  | .refused r => .refused r

/-- FetchDecodeExecute() (R404), with `run` the meaning of the decoded instruction. -/
def fetchExecute (run : Instr → State → Answer) (s : State) : Answer :=
  match fetchInstr s with
  | .ok i s' => run i s'
  | .error f s' => .next (s'.withFault f)

/-- One step of a machine that holds no fault (R402, R403), with `run` the meaning of the decoded instruction. -/
def liveStep (run : Instr → State → Answer) (s : State) : Answer :=
  if s.halted then afterExec ({ s with cyc := 0 }.charge 4)
  else (fetchExecute run { s with cyc := 0 }).andThen afterExec

/-! Placing an instruction where the next fetch reads it. -/

/-- The state in which a bus read at `a` gives `v`, where `a` is a byte of ROM, open VRAM, external RAM, work RAM, open OAM
or high RAM; none where no stored byte answers the read. -/
def plantByte (s : State) (a : Word) (v : Byte) : Option State :=
  let n := a.toNat
  if n ≤ 0x7FFF then
    let i := if n ≤ 0x3FFF then n else effBank s.cart * 0x4000 + (n - 0x4000)
    if i < s.cart.rom.size then
      some { s with cart := { s.cart with rom := { s.cart.rom with bytes := s.cart.rom.bytes.write i v } } }
    else none
  else if n ≤ 0x9FFF then
    if s.ppu.mode = .transfer then none else some { s with ppu := { s.ppu with vram := s.ppu.vram.write (n - 0x8000) v } }
  else if n ≤ 0xBFFF then
    if s.cart.ramen ∧ cramIndex s.cart a < s.cart.cramSize then
      some { s with cart := { s.cart with cram := s.cart.cram.write (cramIndex s.cart a) v } }
    else none
  else if n ≤ 0xDFFF then some { s with wram := s.wram.write (a &&& 0x1FFF).toNat v }
  else if 0xFE00 ≤ n ∧ n ≤ 0xFE9F then
    if s.ppu.oamOpen then some { s with ppu := { s.ppu with oam := s.ppu.oam.write (n - 0xFE00) v } } else none
  else if 0xFF80 ≤ n ∧ n ≤ 0xFFFE then some { s with hram := s.hram.write (n - 0xFF80) v }
  else none

/-- Plants the bytes from `a` on. -/
def plantBytes (s : State) (a : Word) : List Byte → Option State
  | [] => some s
  | v :: vs =>
    match plantByte s a v with
    | some s' => plantBytes s' (a + 1) vs
    | none => none

/-- The state whose next step fetches the bytes `bs`: at PC where they can be stored there, otherwise at the start of
work RAM with PC moved to it; a halted or faulted machine fetches nothing, so both are cleared (log 5). -/
def placeInstr (s : State) (bs : List Byte) : State :=
  let live : State := { s with halted := false, fault := none }
  match plantBytes live live.regs.pc bs with
  | some s' => s'
  | none =>
    match plantBytes (live.setPc 0xC000) 0xC000 bs with
    | some s' => s'
    | none => live

end Sys2Proof.Machine
end

