-- ==== Sys2Proof/Machine/Step.lean ====
section
/-! DEFINITION. One step of the machine (60_exceptions.md R402), and where the next step's instruction is placed. -/

namespace Sys2Proof.Machine

/-- Step() (R402): a machine that holds a fault answers it and changes nothing (R401); otherwise one instruction or one
halted cycle, the device advance, and at most one interrupt dispatch. The cycle count it returns is the next state's
`cyc`. -/
def step (s : State) : Host.Outcome State Fault Refusal :=
  match s.fault with
  | some f => .fault f
  | none => liveStep exec s

/-- `s` with the table's word stored where `step` fetches its next instruction (log 4, log 5); three bytes, the longest
instruction, are stored, those above `nbits` zero. -/
def State.withFetchWord (s : State) (nbits w : Nat) : State :=
  placeInstr s ((tableBytes nbits w ++ [0, 0]).take 3)

end Sys2Proof.Machine
end

