-- ==== Sys2Proof/Machine/Construct.lean ====
section
/-! DEFINITION. Construction, the machine's only reset, for any parameters and any ROM image (70_reset_and_hazards.md R500,
R501; 20_memory.md R94; 10_state.md R56 to R58). `State.reset` is its value at the default parameters and the
blank image (the statement ConstructionLeavesTheSpecState). -/

namespace Sys2Proof.Machine

/-- The ROM bank count of a size code, 2 << code, for a code up to 8 (R94). -/
def bankCount (code : Nat) : Option Nat := if code ≤ 8 then some (2 <<< code) else none

/-- The external RAM size of a code (R94). -/
def cramSizeOf : Nat → Option Nat
  | 0 => some 0
  | 1 => some 0x800
  | 2 => some 0x2000
  | 3 => some 0x8000
  | 4 => some 0x20000
  | 5 => some 0x10000
  | _ => none

/-- Step (2) of R500: CPU state <- INIT_CPU, with F's low nibble zero whatever INIT_CPU is (R56). -/
def initRegs (c : InitCpu) : Regs :=
  { a := c.a, f := c.f &&& 0xF0, b := c.b, c := c.c, d := c.d, e := c.e, h := c.h, l := c.l, sp := c.sp, pc := c.pc }

/-- The PPU of INIT_IO and INIT_MEM: LY = 0, pcnt = 0, and mode 2 or 0 by LCDC bit 7 (R57). -/
def initPpu (p : Params) : Ppu :=
  { lcdc := p.io.lcdc, staten := p.io.staten, coinc := p.io.coinc,
    mode := if p.io.lcdc.getLsbD 7 then .oamScan else .hblank, pcnt := 0, scy := p.io.scy, scx := p.io.scx, ly := 0,
    lyc := p.io.lyc, bgp := p.io.bgp, obp0 := p.io.obp0, obp1 := p.io.obp1, wy := p.io.wy, wx := p.io.wx,
    vram := Memory.ofCells 0x2000 p.mem.vram, oam := Memory.ofCells 160 p.mem.oam, fb := [], fbInit := p.fbInit,
    bgpri := [] }

/-- Construct(rom) (R500): refused for an image shorter than 0x150 bytes, a ROM code above 8 or a RAM code above 5 (R94).
DESIGN CHOICE (log 14): it checks nothing else, so FB_INIT may be any byte (R58). -/
def construct (p : Params) (size : Nat) (bytes : List Host.Cell) : Option State :=
  let rom : Rom := { size := size, bytes := Memory.ofCells size bytes }
  if size < 0x150 then none
  else
    match bankCount (rom.byte 0x0148).toNat, cramSizeOf (rom.byte 0x0149).toNat with
    | some nbanks, some cramSize =>
      some
        { regs := initRegs p.cpu, ime := false, halted := false, cyc := 0, fault := none, ie := p.io.ie, ifr := p.io.ifr
          timer := { divc := p.io.divc, tima := p.io.tima, tma := p.io.tma, tac := p.io.tac }
          ppu := initPpu p
          joy := { keys := p.io.keys, jsel := p.io.jsel }
          cart := { rom := rom, nbanks := nbanks, cramSize := cramSize, cram := Memory.ofCells cramSize p.mem.cram,
                    lo := p.io.lo, hi := p.io.hi, bmode := p.io.bmode, ramen := p.io.ramen }
          wram := Memory.ofCells 0x2000 p.mem.wram
          hram := Memory.ofCells 127 p.mem.hram
          serout := []
          extra := { ops := p.extraOps, subs := p.extraSubs } }
    | _, _ => none

end Sys2Proof.Machine
end

