-- ==== Sys2Proof/Safety.lean ====
section
/-! DEFINITION. What a legal state and a safe run are, in the terms the claims use. -/

namespace Sys2Proof.Machine

/-- Every memory and store is in its canonical form (10_state.md R48, R50, R51). -/
structure State.MemoryWf (s : State) : Prop where
  wram : Memory.wf 0x2000 s.wram
  hram : Memory.wf 127 s.hram
  vram : Memory.wf 0x2000 s.ppu.vram
  oam : Memory.wf 160 s.ppu.oam
  cram : Memory.wf s.cart.cramSize s.cart.cram
  rom : Memory.wf s.cart.rom.size s.cart.rom.bytes
  fb : Sparse.wf s.ppu.fbInit (160 * 144) s.ppu.fb
  bgpri : Sparse.wf false (160 * 144) s.ppu.bgpri

/-- The low nibble of F is zero (10_state.md R32). -/
def State.FlagsLegal (s : State) : Prop := s.regs.f &&& 0x0F = 0

/-- The PPU with the display off is frozen at line 0 in mode 0; with it on, pcnt is inside the mode, LY is at most 153,
and the mode is 1 exactly on the lines from 144 on (60_exceptions.md R430, R431, R437). -/
def Ppu.TimingLegal (p : Ppu) : Prop :=
  (p.displayOn = false → p.mode = .hblank ∧ p.ly = 0 ∧ p.pcnt = 0) ∧
  (p.displayOn = true → p.pcnt.toNat < p.mode.length ∧ p.ly.toNat ≤ 153 ∧ (p.mode = .vblank ↔ 144 ≤ p.ly.toNat))

/-- Every rendered framebuffer byte is one of the four shades (10_state.md R48, 60_exceptions.md R442). A byte not rendered
since construction reads as FB_INIT, which may be any byte (log 14). -/
def Ppu.ShadesLegal (p : Ppu) : Prop := ∀ c ∈ p.fb, c.2 ∈ [0xFF#8, 0xAA#8, 0x55#8, 0x00#8]

/-- The machine is halted only with IME = 1 (60_exceptions.md R403). -/
def State.HaltLegal (s : State) : Prop := s.halted = true → s.ime = true

/-- The bank count and the external RAM size are ones that construction derives (20_memory.md R94). -/
def Cart.SizesLegal (c : Cart) : Prop :=
  (∃ code, code ≤ 8 ∧ c.nbanks = 2 <<< code) ∧ c.cramSize ∈ [0, 0x800, 0x2000, 0x8000, 0x20000, 0x10000]

/-- The invariant of the machine: what every reachable state is, faulted or not. -/
structure State.Inv (s : State) : Prop where
  memory : s.MemoryWf
  flags : s.FlagsLegal
  timing : s.ppu.TimingLegal
  shades : s.ppu.ShadesLegal
  halt : s.HaltLegal
  cart : s.cart.SizesLegal

/-- A run of `k` steps from `s` is safe when it reaches a state that holds no fatal error (60_exceptions.md R401). -/
def SafeRun (k : Nat) (s : State) : Prop := ∃ t, Host.Core.run Sys2Proof.core k s = .next t ∧ t.fault = none

end Sys2Proof.Machine
end

