-- ==== Sys2Proof/WellFormed.lean ====
section
/-! DEFINITION. The one check an instruction's fields need: STOP's trailing byte must be 0x00 (30_encoding.md R129, R131).
Every other operand field admits every value of its width (R127). -/

namespace Sys2Proof

/-- The instruction is one the encoding of the spec admits. -/
def Instr.wellFormed : Instr → Bool
  | .stop u => u == 0x00
  | .nop => true
  | .ldBCnn _ => true
  | .ldAtBCA => true
  | .incBC => true
  | .incB => true
  | .decB => true
  | .ldBn _ => true
  | .rlca => true
  | .ldAtNnSP _ => true
  | .addHLBC => true
  | .ldAAtBC => true
  | .decBC => true
  | .incC => true
  | .decC => true
  | .ldCn _ => true
  | .rrca => true
  | .ldDEnn _ => true
  | .ldAtDEA => true
  | .incDE => true
  | .incD => true
  | .decD => true
  | .ldDn _ => true
  | .rla => true
  | .jre _ => true
  | .addHLDE => true
  | .ldAAtDE => true
  | .decDE => true
  | .incE => true
  | .decE => true
  | .ldEn _ => true
  | .rra => true
  | .jrNZe _ => true
  | .ldHLnn _ => true
  | .ldAtHLIncA => true
  | .incHL => true
  | .incH => true
  | .decH => true
  | .ldHn _ => true
  | .daa => true
  | .jrZe _ => true
  | .addHLHL => true
  | .ldAAtHLInc => true
  | .decHL => true
  | .incL => true
  | .decL => true
  | .ldLn _ => true
  | .cpl => true
  | .jrNCe _ => true
  | .ldSPnn _ => true
  | .ldAtHLDecA => true
  | .incSP => true
  | .incAtHL => true
  | .decAtHL => true
  | .ldAtHLn _ => true
  | .scf => true
  | .jrCe _ => true
  | .addHLSP => true
  | .ldAAtHLDec => true
  | .decSP => true
  | .incA => true
  | .decA => true
  | .ldAn _ => true
  | .ccf => true
  | .ldBB => true
  | .ldBC => true
  | .ldBD => true
  | .ldBE => true
  | .ldBH => true
  | .ldBL => true
  | .ldBAtHL => true
  | .ldBA => true
  | .ldCB => true
  | .ldCC => true
  | .ldCD => true
  | .ldCE => true
  | .ldCH => true
  | .ldCL => true
  | .ldCAtHL => true
  | .ldCA => true
  | .ldDB => true
  | .ldDC => true
  | .ldDD => true
  | .ldDE => true
  | .ldDH => true
  | .ldDL => true
  | .ldDAtHL => true
  | .ldDA => true
  | .ldEB => true
  | .ldEC => true
  | .ldED => true
  | .ldEE => true
  | .ldEH => true
  | .ldEL => true
  | .ldEAtHL => true
  | .ldEA => true
  | .ldHB => true
  | .ldHC => true
  | .ldHD => true
  | .ldHE => true
  | .ldHH => true
  | .ldHL => true
  | .ldHAtHL => true
  | .ldHA => true
  | .ldLB => true
  | .ldLC => true
  | .ldLD => true
  | .ldLE => true
  | .ldLH => true
  | .ldLL => true
  | .ldLAtHL => true
  | .ldLA => true
  | .ldAtHLB => true
  | .ldAtHLC => true
  | .ldAtHLD => true
  | .ldAtHLE => true
  | .ldAtHLH => true
  | .ldAtHLL => true
  | .halt => true
  | .ldAtHLA => true
  | .ldAB => true
  | .ldAC => true
  | .ldAD => true
  | .ldAE => true
  | .ldAH => true
  | .ldAL => true
  | .ldAAtHL => true
  | .ldAA => true
  | .addAB => true
  | .addAC => true
  | .addAD => true
  | .addAE => true
  | .addAH => true
  | .addAL => true
  | .addAAtHL => true
  | .addAA => true
  | .adcAB => true
  | .adcAC => true
  | .adcAD => true
  | .adcAE => true
  | .adcAH => true
  | .adcAL => true
  | .adcAAtHL => true
  | .adcAA => true
  | .subB => true
  | .subC => true
  | .subD => true
  | .subE => true
  | .subH => true
  | .subL => true
  | .subAtHL => true
  | .subA => true
  | .sbcAB => true
  | .sbcAC => true
  | .sbcAD => true
  | .sbcAE => true
  | .sbcAH => true
  | .sbcAL => true
  | .sbcAAtHL => true
  | .sbcAA => true
  | .andB => true
  | .andC => true
  | .andD => true
  | .andE => true
  | .andH => true
  | .andL => true
  | .andAtHL => true
  | .andA => true
  | .xorB => true
  | .xorC => true
  | .xorD => true
  | .xorE => true
  | .xorH => true
  | .xorL => true
  | .xorAtHL => true
  | .xorA => true
  | .orB => true
  | .orC => true
  | .orD => true
  | .orE => true
  | .orH => true
  | .orL => true
  | .orAtHL => true
  | .orA => true
  | .cpB => true
  | .cpC => true
  | .cpD => true
  | .cpE => true
  | .cpH => true
  | .cpL => true
  | .cpAtHL => true
  | .cpA => true
  | .retNZ => true
  | .popBC => true
  | .jpNZnn _ => true
  | .jpnn _ => true
  | .callNZnn _ => true
  | .pushBC => true
  | .addAn _ => true
  | .rst00 => true
  | .retZ => true
  | .ret => true
  | .jpZnn _ => true
  | .cbPrefix => true
  | .callZnn _ => true
  | .callnn _ => true
  | .adcAn _ => true
  | .rst08 => true
  | .retNC => true
  | .popDE => true
  | .jpNCnn _ => true
  | .unusedD3 => true
  | .callNCnn _ => true
  | .pushDE => true
  | .subn _ => true
  | .rst10 => true
  | .retC => true
  | .reti => true
  | .jpCnn _ => true
  | .unusedDB => true
  | .callCnn _ => true
  | .unusedDD => true
  | .sbcAn _ => true
  | .rst18 => true
  | .ldhAtNA _ => true
  | .popHL => true
  | .ldAtCA => true
  | .unusedE3 => true
  | .unusedE4 => true
  | .pushHL => true
  | .andn _ => true
  | .rst20 => true
  | .addSPe _ => true
  | .jpHL => true
  | .ldAtNnA _ => true
  | .unusedEB => true
  | .unusedEC => true
  | .unusedED => true
  | .xorn _ => true
  | .rst28 => true
  | .ldhAAtN _ => true
  | .popAF => true
  | .ldAAtC => true
  | .di => true
  | .unusedF4 => true
  | .pushAF => true
  | .orn _ => true
  | .rst30 => true
  | .ldHLSPe _ => true
  | .ldSPHL => true
  | .ldAAtNn _ => true
  | .ei => true
  | .unusedFC => true
  | .unusedFD => true
  | .cpn _ => true
  | .rst38 => true
  | .rlcB => true
  | .rlcC => true
  | .rlcD => true
  | .rlcE => true
  | .rlcH => true
  | .rlcL => true
  | .rlcAtHL => true
  | .rlcA => true
  | .rrcB => true
  | .rrcC => true
  | .rrcD => true
  | .rrcE => true
  | .rrcH => true
  | .rrcL => true
  | .rrcAtHL => true
  | .rrcA => true
  | .rlB => true
  | .rlC => true
  | .rlD => true
  | .rlE => true
  | .rlH => true
  | .rlL => true
  | .rlAtHL => true
  | .rlA => true
  | .rrB => true
  | .rrC => true
  | .rrD => true
  | .rrE => true
  | .rrH => true
  | .rrL => true
  | .rrAtHL => true
  | .rrA => true
  | .slaB => true
  | .slaC => true
  | .slaD => true
  | .slaE => true
  | .slaH => true
  | .slaL => true
  | .slaAtHL => true
  | .slaA => true
  | .sraB => true
  | .sraC => true
  | .sraD => true
  | .sraE => true
  | .sraH => true
  | .sraL => true
  | .sraAtHL => true
  | .sraA => true
  | .swapB => true
  | .swapC => true
  | .swapD => true
  | .swapE => true
  | .swapH => true
  | .swapL => true
  | .swapAtHL => true
  | .swapA => true
  | .srlB => true
  | .srlC => true
  | .srlD => true
  | .srlE => true
  | .srlH => true
  | .srlL => true
  | .srlAtHL => true
  | .srlA => true
  | .bit0B => true
  | .bit0C => true
  | .bit0D => true
  | .bit0E => true
  | .bit0H => true
  | .bit0L => true
  | .bit0AtHL => true
  | .bit0A => true
  | .bit1B => true
  | .bit1C => true
  | .bit1D => true
  | .bit1E => true
  | .bit1H => true
  | .bit1L => true
  | .bit1AtHL => true
  | .bit1A => true
  | .bit2B => true
  | .bit2C => true
  | .bit2D => true
  | .bit2E => true
  | .bit2H => true
  | .bit2L => true
  | .bit2AtHL => true
  | .bit2A => true
  | .bit3B => true
  | .bit3C => true
  | .bit3D => true
  | .bit3E => true
  | .bit3H => true
  | .bit3L => true
  | .bit3AtHL => true
  | .bit3A => true
  | .bit4B => true
  | .bit4C => true
  | .bit4D => true
  | .bit4E => true
  | .bit4H => true
  | .bit4L => true
  | .bit4AtHL => true
  | .bit4A => true
  | .bit5B => true
  | .bit5C => true
  | .bit5D => true
  | .bit5E => true
  | .bit5H => true
  | .bit5L => true
  | .bit5AtHL => true
  | .bit5A => true
  | .bit6B => true
  | .bit6C => true
  | .bit6D => true
  | .bit6E => true
  | .bit6H => true
  | .bit6L => true
  | .bit6AtHL => true
  | .bit6A => true
  | .bit7B => true
  | .bit7C => true
  | .bit7D => true
  | .bit7E => true
  | .bit7H => true
  | .bit7L => true
  | .bit7AtHL => true
  | .bit7A => true
  | .res0B => true
  | .res0C => true
  | .res0D => true
  | .res0E => true
  | .res0H => true
  | .res0L => true
  | .res0AtHL => true
  | .res0A => true
  | .res1B => true
  | .res1C => true
  | .res1D => true
  | .res1E => true
  | .res1H => true
  | .res1L => true
  | .res1AtHL => true
  | .res1A => true
  | .res2B => true
  | .res2C => true
  | .res2D => true
  | .res2E => true
  | .res2H => true
  | .res2L => true
  | .res2AtHL => true
  | .res2A => true
  | .res3B => true
  | .res3C => true
  | .res3D => true
  | .res3E => true
  | .res3H => true
  | .res3L => true
  | .res3AtHL => true
  | .res3A => true
  | .res4B => true
  | .res4C => true
  | .res4D => true
  | .res4E => true
  | .res4H => true
  | .res4L => true
  | .res4AtHL => true
  | .res4A => true
  | .res5B => true
  | .res5C => true
  | .res5D => true
  | .res5E => true
  | .res5H => true
  | .res5L => true
  | .res5AtHL => true
  | .res5A => true
  | .res6B => true
  | .res6C => true
  | .res6D => true
  | .res6E => true
  | .res6H => true
  | .res6L => true
  | .res6AtHL => true
  | .res6A => true
  | .res7B => true
  | .res7C => true
  | .res7D => true
  | .res7E => true
  | .res7H => true
  | .res7L => true
  | .res7AtHL => true
  | .res7A => true
  | .set0B => true
  | .set0C => true
  | .set0D => true
  | .set0E => true
  | .set0H => true
  | .set0L => true
  | .set0AtHL => true
  | .set0A => true
  | .set1B => true
  | .set1C => true
  | .set1D => true
  | .set1E => true
  | .set1H => true
  | .set1L => true
  | .set1AtHL => true
  | .set1A => true
  | .set2B => true
  | .set2C => true
  | .set2D => true
  | .set2E => true
  | .set2H => true
  | .set2L => true
  | .set2AtHL => true
  | .set2A => true
  | .set3B => true
  | .set3C => true
  | .set3D => true
  | .set3E => true
  | .set3H => true
  | .set3L => true
  | .set3AtHL => true
  | .set3A => true
  | .set4B => true
  | .set4C => true
  | .set4D => true
  | .set4E => true
  | .set4H => true
  | .set4L => true
  | .set4AtHL => true
  | .set4A => true
  | .set5B => true
  | .set5C => true
  | .set5D => true
  | .set5E => true
  | .set5H => true
  | .set5L => true
  | .set5AtHL => true
  | .set5A => true
  | .set6B => true
  | .set6C => true
  | .set6D => true
  | .set6E => true
  | .set6H => true
  | .set6L => true
  | .set6AtHL => true
  | .set6A => true
  | .set7B => true
  | .set7C => true
  | .set7D => true
  | .set7E => true
  | .set7H => true
  | .set7L => true
  | .set7AtHL => true
  | .set7A => true

end Sys2Proof
end

