-- ==== Sys2Proof/Certificates/Slice0/Obligations.lean ====
section
/-! DEFINITION. The statements for the provers. The first part is their vocabulary, written from the rules of spec/ as
arithmetic on numbers where the model computes on bit vectors. -/

namespace Sys2Proof.Spec

open Sys2Proof.Machine

/-! Addresses and accesses. -/

/-- lo <= a <= hi. -/
abbrev Within (lo hi : Nat) (a : Word) : Prop := lo ≤ a.toNat ∧ a.toNat ≤ hi

/-- The index of a cartridge access at `a` lies inside the ROM image or the external RAM (R85, R86, R87, R95); every other
address can always be read. -/
def ReadOk (s : State) (a : Word) : Prop :=
  (a.toNat ≤ 0x3FFF → a.toNat < s.cart.rom.size) ∧
  (Within 0x4000 0x7FFF a → effBank s.cart * 0x4000 + (a.toNat - 0x4000) < s.cart.rom.size) ∧
  (Within 0xA000 0xBFFF a → s.cart.ramen = true → cramIndex s.cart a < s.cart.cramSize)

/-- The address `page : 00` + i of byte i of an OAM-DMA source page (R81). -/
def dmaSource (page : Byte) (i : Nat) : Word := BitVec.ofNat 16 (256 * page.toNat + i)

/-- A write of `v` to `a` raises no error (R82, R92, R95): enabled external RAM holds the index, and a value written to
0xFF46 is a page in 0x80 to 0xDF of which every byte can be read. -/
def WriteOk (s : State) (a : Word) (v : Byte) : Prop :=
  (Within 0xA000 0xBFFF a → s.cart.ramen = true → cramIndex s.cart a < s.cart.cramSize) ∧
  (a = 0xFF46 → 0x80 ≤ v.toNat ∧ v.toNat ≤ 0xDF ∧ ∀ i, i < 160 → ReadOk s (dmaSource v i))

/-- The addresses whose reads a write of `v` to `a` may change: the byte itself; the banked windows for an MBC latch; STAT, LY,
IF and the gated memories for a write of LCDC that toggles the display; OAM for an OAM-DMA (R102). -/
def Touches (s : State) (a : Word) (v : Byte) (b : Word) : Prop :=
  (0x8000 ≤ a.toNat ∧ b = a) ∨
  (a.toNat ≤ 0x1FFF ∧ Within 0xA000 0xBFFF b) ∨
  (Within 0x2000 0x3FFF a ∧ Within 0x4000 0x7FFF b) ∨
  (Within 0x4000 0x7FFF a ∧ (Within 0x4000 0x7FFF b ∨ Within 0xA000 0xBFFF b)) ∨
  (a = 0xFF40 ∧ v.getLsbD 7 ≠ s.ppu.lcdc.getLsbD 7 ∧
    (b = 0xFF41 ∨ b = 0xFF44 ∨ b = 0xFF0F ∨ Within 0x8000 0x9FFF b ∨ Within 0xFE00 0xFE9F b)) ∨
  (a = 0xFF46 ∧ Within 0xFE00 0xFE9F b)

/-- `t` is what MemWrite(a, v) leaves of `s` (R10, R74, R80, R81): the write's own 4 cycles and the bus write's effect, or at
0xFF46 the copy of 160 bytes into OAM, which the closed OAM discards, at 1280 cycles more. No CPU register, IME, halted
or fault changes, and every address the write does not touch reads as before. -/
structure StoreEffect (s : State) (a : Word) (v : Byte) (t : State) : Prop where
  byte : a ≠ 0xFF46 → ∃ u, busStore s a v = .ok u ∧ t = u.charge 4
  dma : a = 0xFF46 →
    t = { s with cyc := s.cyc + 1284, ppu := { s.ppu with oam := t.ppu.oam } } ∧
    (s.ppu.oamOpen = false → t.ppu.oam = s.ppu.oam) ∧
    (s.ppu.oamOpen = true → Memory.wf 160 t.ppu.oam ∧
      ∀ i, i < 160 → busRead s (dmaSource v i) = .ok (t.ppu.oam.read i))
  cpu : t.regs = s.regs ∧ t.ime = s.ime ∧ t.halted = s.halted ∧ t.fault = s.fault
  frame : ∀ b, ¬ Touches s a v b → busRead t b = busRead s b

/-- `t` is what Push16(v) leaves of `s` (R98): the high byte at SP - 1, then the low byte at SP - 2. -/
def PushEffect (s : State) (v : Word) (t : State) : Prop :=
  ∃ u, StoreEffect (s.setSp (s.regs.sp - 1)) (s.regs.sp - 1) (hiByte v) u ∧
    StoreEffect (u.setSp (s.regs.sp - 2)) (s.regs.sp - 2) (loByte v) t

/-- Push16(v) raises `f` and reaches `t` (R401): at its first store, or at its second with the first one done. -/
def PushFault (s : State) (v : Word) (f : Fault) (t : State) : Prop :=
  memWrite (s.regs.sp - 1) (hiByte v) (s.setSp (s.regs.sp - 1)) = .error f t ∨
  ∃ u, memWrite (s.regs.sp - 1) (hiByte v) (s.setSp (s.regs.sp - 1)) = .ok () u ∧
    memWrite (s.regs.sp - 2) (loByte v) (u.setSp (s.regs.sp - 2)) = .error f t

/-! What an instruction does, by its shape. That a raised error is answered by a next state which holds it is the model's
reading of R401 (log 1). -/

/-- `i` always leaves `post s`: everything `post` does not change is unchanged. -/
def Runs (i : Instr) (post : State → State) : Prop := ∀ s, exec i s = .next (post s)

/-- `i` reads the byte at `addr s` at 4 cycles, then does `post`; a read that faults leaves the fault held after the 4 cycles. -/
structure Loads (i : Instr) (addr : State → Word) (post : Byte → State → State) : Prop where
  completes : ∀ s v, busRead s (addr s) = .ok v → exec i s = .next (post v (s.charge 4))
  faults : ∀ s f, busRead s (addr s) = .error f → exec i s = .next ((s.charge 4).withFault f)

/-- `i` stores the byte `val s` at `addr s`, then does `post`; a store that faults leaves the fault held. -/
structure Stores (i : Instr) (addr : State → Word) (val : State → Byte) (post : State → State) : Prop where
  completes : ∀ s, s.MemoryWf → WriteOk s (addr s) (val s) →
    ∃ t, StoreEffect s (addr s) (val s) t ∧ exec i s = .next (post t)
  faults : ∀ s f t, memWrite (addr s) (val s) s = .error f t → exec i s = .next (t.withFault f)

/-- In the states of `when_`, `i` ticks once, pushes the word `val s`, then does `post`; a push that faults leaves the fault
held. -/
structure Pushes (when_ : State → Prop) (i : Instr) (val : State → Word) (post : State → State) : Prop where
  completes : ∀ s, when_ s → s.MemoryWf → WriteOk s (s.regs.sp - 1) (hiByte (val s)) →
    WriteOk s (s.regs.sp - 2) (loByte (val s)) →
    ∃ t, PushEffect (s.charge 4) (val s) t ∧ exec i s = .next (post t)
  faults : ∀ s f t, when_ s → PushFault (s.charge 4) (val s) f t → exec i s = .next (t.withFault f)

/-- In the states of `when_`, `i` charges `before` cycles, pops the word `hi : lo` at 8 cycles and SP + 2, and does `post`; a read
that faults leaves the fault held, SP moved past the bytes read. -/
structure Pops (when_ : State → Prop) (i : Instr) (before : Nat) (post : Word → State → State) : Prop where
  completes : ∀ s lo hi, when_ s → busRead s s.regs.sp = .ok lo → busRead s (s.regs.sp + 1) = .ok hi →
    exec i s = .next (post (BitVec.ofNat 16 (256 * hi.toNat + lo.toNat)) ((s.charge (before + 8)).setSp (s.regs.sp + 2)))
  faultsLow : ∀ s f, when_ s → busRead s s.regs.sp = .error f →
    exec i s = .next ((s.charge (before + 4)).withFault f)
  faultsHigh : ∀ s lo f, when_ s → busRead s s.regs.sp = .ok lo → busRead s (s.regs.sp + 1) = .error f →
    exec i s = .next (((s.charge (before + 8)).setSp (s.regs.sp + 1)).withFault f)

/-! Conditions, results and flags, as numbers. -/

/-- cond(cc) of an F byte (R270): Z is bit 7, C is bit 4 (R32). -/
def condHolds (cc : Cond) (f : Byte) : Bool :=
  match cc with
  | .nz => !f.getLsbD 7
  | .z => f.getLsbD 7
  | .nc => !f.getLsbD 4
  | .c => f.getLsbD 4

/-- The result `r` and the flags `g` of an 8-bit ALU operation on A = `a`, the source `v` and the carry in `c` (R231 to R238). -/
def AluResult (op : AluOp) (a v : Byte) (c : Bool) (r : Byte) (g : Flags) : Prop :=
  match op with
  | .add => r.toNat = (a.toNat + v.toNat) % 256 ∧ (g.z = true ↔ r = 0) ∧ g.n = false ∧
      (g.h = true ↔ a.toNat % 16 + v.toNat % 16 > 15) ∧ (g.c = true ↔ a.toNat + v.toNat > 255)
  | .adc => r.toNat = (a.toNat + v.toNat + c.toNat) % 256 ∧ (g.z = true ↔ r = 0) ∧ g.n = false ∧
      (g.h = true ↔ a.toNat % 16 + v.toNat % 16 + c.toNat > 15) ∧ (g.c = true ↔ a.toNat + v.toNat + c.toNat > 255)
  | .sub => r.toNat = (a.toNat + 256 - v.toNat) % 256 ∧ (g.z = true ↔ r = 0) ∧ g.n = true ∧
      (g.h = true ↔ a.toNat % 16 < v.toNat % 16) ∧ (g.c = true ↔ a.toNat < v.toNat)
  | .sbc => r.toNat = (a.toNat + 512 - v.toNat - c.toNat) % 256 ∧ (g.z = true ↔ r = 0) ∧ g.n = true ∧
      (g.h = true ↔ a.toNat % 16 < v.toNat % 16 + c.toNat) ∧ (g.c = true ↔ a.toNat < v.toNat + c.toNat)
  | .and => (∀ k, k < 8 → r.getLsbD k = (a.getLsbD k && v.getLsbD k)) ∧ (g.z = true ↔ r = 0) ∧ g.n = false ∧
      g.h = true ∧ g.c = false
  | .xor => (∀ k, k < 8 → r.getLsbD k = (a.getLsbD k != v.getLsbD k)) ∧ (g.z = true ↔ r = 0) ∧ g.n = false ∧
      g.h = false ∧ g.c = false
  | .or => (∀ k, k < 8 → r.getLsbD k = (a.getLsbD k || v.getLsbD k)) ∧ (g.z = true ↔ r = 0) ∧ g.n = false ∧
      g.h = false ∧ g.c = false
  | .cp => r = a ∧ (g.z = true ↔ a = v) ∧ g.n = true ∧
      (g.h = true ↔ a.toNat % 16 < v.toNat % 16) ∧ (g.c = true ↔ a.toNat < v.toNat)

/-- INC of a byte (R239). -/
def IncResult (v : Byte) (old : Flags) (r : Byte) (g : Flags) : Prop :=
  r.toNat = (v.toNat + 1) % 256 ∧ (g.z = true ↔ r = 0) ∧ g.n = false ∧ (g.h = true ↔ v.toNat % 16 = 15) ∧ g.c = old.c

/-- DEC of a byte (R240). -/
def DecResult (v : Byte) (old : Flags) (r : Byte) (g : Flags) : Prop :=
  r.toNat = (v.toNat + 255) % 256 ∧ (g.z = true ↔ r = 0) ∧ g.n = true ∧ (g.h = true ↔ v.toNat % 16 = 0) ∧ g.c = old.c

/-- The result `r` and the carry out `k` of a 0xCB rotate, shift or swap of `v` with the carry in `c` (R291 to R298). -/
def RotResult (op : RotOp) (v : Byte) (c : Bool) (r : Byte) (k : Bool) : Prop :=
  match op with
  | .rlc => r.toNat = v.toNat * 2 % 256 + v.toNat / 128 ∧ (k = true ↔ 128 ≤ v.toNat)
  | .rrc => r.toNat = v.toNat / 2 + 128 * (v.toNat % 2) ∧ (k = true ↔ v.toNat % 2 = 1)
  | .rl => r.toNat = v.toNat * 2 % 256 + c.toNat ∧ (k = true ↔ 128 ≤ v.toNat)
  | .rr => r.toNat = v.toNat / 2 + 128 * c.toNat ∧ (k = true ↔ v.toNat % 2 = 1)
  | .sla => r.toNat = v.toNat * 2 % 256 ∧ (k = true ↔ 128 ≤ v.toNat)
  | .sra => r.toNat = v.toNat / 2 + 128 * (v.toNat / 128) ∧ (k = true ↔ v.toNat % 2 = 1)
  | .swap => r.toNat = 16 * (v.toNat % 16) + v.toNat / 16 ∧ k = false
  | .srl => r.toNat = v.toNat / 2 ∧ (k = true ↔ v.toNat % 2 = 1)

/-- The flags of the 0xCB rotates, shifts and swap (R291 to R298). -/
def RotFlags (r : Byte) (k : Bool) (g : Flags) : Prop := (g.z = true ↔ r = 0) ∧ g.n = false ∧ g.h = false ∧ g.c = k

/-- BIT's flags (R299). -/
def BitFlags (v : Byte) (b : BitVec 3) (old g : Flags) : Prop :=
  (g.z = true ↔ v.getLsbD b.toNat = false) ∧ g.n = false ∧ g.h = true ∧ g.c = old.c

/-- `r` is `v` with bit b set to `x` (R300, R301). -/
def BitSet (v : Byte) (b : BitVec 3) (x : Bool) (r : Byte) : Prop :=
  ∀ k, k < 8 → r.getLsbD k = if k = b.toNat then x else v.getLsbD k

/-- The byte of a two-digit binary-coded decimal number. -/
def bcd (n : Nat) : Byte := BitVec.ofNat 8 (16 * (n / 10 % 10) + n % 10)

/-! Interrupts. -/

/-- The interrupt's number i: its bit of IE and IF and its priority (10_state.md R41). -/
def number : Interrupt → Nat
  | .vblank => 0
  | .stat => 1
  | .timer => 2
  | .serial => 3
  | .joypad => 4

/-- IE[i] = 1 and IF[i] = 1 (R408). -/
def Pending (s : State) (i : Interrupt) : Prop := s.ie.getLsbD (number i) = true ∧ s.ifr.getLsbD (number i) = true

/-- `i` is the lowest pending interrupt (R409). -/
def Lowest (s : State) (i : Interrupt) : Prop := Pending s i ∧ ∀ j, number j < number i → ¬ Pending s j

/-- The state in which Dispatch(i) pushes PC (R410): IF[i], IME and halted are 0, and two ticks are charged. -/
def dispatchBase (s : State) (i : Interrupt) : State :=
  { s with ifr := s.ifr &&& ~~~(1#8 <<< number i), ime := false, halted := false, cyc := s.cyc + 8 }

/-- The bit of KEYS a button has (R450). -/
def keyBit : Key → Nat
  | .down => 7
  | .up => 6
  | .left => 5
  | .right => 4
  | .start => 3
  | .select => 2
  | .b => 1
  | .a => 0

/-! Steps. -/

/-- The bytes at PC, from PC on, can be read and are `bs`. -/
def Fetched (s : State) (bs : List Byte) : Prop :=
  ∀ k (h : k < bs.length), busRead s (s.regs.pc + BitVec.ofNat 16 k) = .ok bs[k]

/-- No fault is held and the machine is not halted: the next step fetches. -/
def Fetches (s : State) : Prop := s.fault = none ∧ s.halted = false

/-- The state after an instruction of `n` bytes has been fetched in a step that starts in `s`: 4 cycles a byte (R10, R404). -/
def afterFetch (s : State) (n : Nat) : State := ({ s with cyc := 4 * n }).setPc (s.regs.pc + BitVec.ofNat 16 n)

/-- The devices advanced by the step's cost (R405). -/
def advanced (s : State) : State := ppuUpdate s.cyc (timerUpdate s.cyc s)

/-- What a step does after its instruction or halted cycle left `t` (R401, R402, R409): it stops on a fault; else the devices
advance and the lowest pending interrupt, if IME allows one, is dispatched. `faulted`, and `interrupted` where the push raises an
error, say with log 1 that the raising step answers a NEXT state which holds the fault, where R401 and R402 return it. -/
structure StepEnds (t : State) (answer_ : Answer) : Prop where
  faulted : t.fault ≠ none → answer_ = .next t
  quiet : t.fault = none → ((advanced t).ime = false ∨ ∀ i, ¬ Pending (advanced t) i) → answer_ = .next (advanced t)
  interrupted : t.fault = none → (advanced t).ime = true → ∀ i, Lowest (advanced t) i →
    answer_ = answer (dispatch i) (advanced t)

/-! The PPU. -/

/-- The display is on at the start of line 0: mode 2, LY = 0, pcnt = 0 (R435). -/
def FrameStart (s : State) : Prop :=
  s.ppu.lcdc.getLsbD 7 = true ∧ s.ppu.ly = 0 ∧ s.ppu.mode = .oamScan ∧ s.ppu.pcnt = 0

/-- The mode and the mode-cycle counter `d` cycles into a line (R431, R435): a V-blank line is one whole mode. -/
def linePosition (line d : Nat) : PpuMode × Nat :=
  if 144 ≤ line then (.vblank, d)
  else if d < 80 then (.oamScan, d)
  else if d < 252 then (.transfer, d - 80)
  else (.hblank, d - 252)

/-- The colour index of pixel (px, py) of the 256 x 256 map at `map` (R440, R441). -/
def pixelColour (p : Ppu) (map px py : Nat) : Nat :=
  let tile := p.vram.read (map - 0x8000 + 32 * (py / 8) + px / 8)
  let ta : Int := (if p.lcdc.getLsbD 4 then 0x8000 + 16 * (tile.toNat : Int) else 0x9000 + 16 * tile.toInt) + 2 * (py % 8 : Nat)
  let lo := p.vram.read (ta - 0x8000).toNat
  let hi := p.vram.read (ta + 1 - 0x8000).toNat
  2 * (hi.getLsbD (7 - px % 8)).toNat + (lo.getLsbD (7 - px % 8)).toNat

/-- The colour index at column x of line y with the background enabled (R440, R443): the window covers the columns from
WX - 7 on, if WX is at least 7 and WY <= y; the background wraps modulo 256. -/
def lineColour (p : Ppu) (y x : Nat) : Nat :=
  if p.lcdc.getLsbD 5 ∧ p.wy.toNat ≤ y ∧ 7 ≤ p.wx.toNat ∧ p.wx.toNat ≤ x + 7 then
    pixelColour p (if p.lcdc.getLsbD 6 then 0x9C00 else 0x9800) (x + 7 - p.wx.toNat) (y - p.wy.toNat)
  else
    pixelColour p (if p.lcdc.getLsbD 3 then 0x9C00 else 0x9800) ((p.scx.toNat + x) % 256) ((p.scy.toNat + y) % 256)

/-- SHADE[(BGP >> 2c) & 3] with SHADE = [0xFF, 0xAA, 0x55, 0x00] (R442). -/
def shadeOf (bgp : Byte) (c : Nat) : Byte := BitVec.ofNat 8 (255 - 85 * (bgp.toNat / 4 ^ c % 4))

/-! Construction. -/

/-- The rows of R502's table, with the default parameters. -/
structure StartsAs (s : State) : Prop where
  registers : s.regs = { a := 0x01, f := 0xB0, b := 0x00, c := 0x13, d := 0x00, e := 0xD8, h := 0x01, l := 0x4D,
                         sp := 0xFFFE, pc := 0x0100 }
  cpu : s.ime = false ∧ s.halted = false ∧ s.cyc = 0 ∧ s.fault = none
  interrupts : s.ie = 0x00 ∧ s.ifr = 0x00
  timer : s.timer = { divc := 0x0000, tima := 0x00, tma := 0x00, tac := 0b000 }
  lcd : s.ppu.lcdc = 0x91 ∧ s.ppu.mode = .oamScan ∧ s.ppu.pcnt = 0 ∧ s.ppu.ly = 0 ∧ s.ppu.staten = 0b0000 ∧
    s.ppu.coinc = false
  ppuRegs : s.ppu.scy = 0x00 ∧ s.ppu.scx = 0x00 ∧ s.ppu.lyc = 0x00 ∧ s.ppu.wy = 0x00 ∧ s.ppu.wx = 0x00 ∧
    s.ppu.bgp = 0xFC ∧ s.ppu.obp0 = 0xFF ∧ s.ppu.obp1 = 0xFF
  joypad : s.joy = { keys := 0xFF, jsel := 0xFF }
  latches : s.cart.lo = 0 ∧ s.cart.hi = 0 ∧ s.cart.bmode = false ∧ s.cart.ramen = false
  memories : ∀ n, s.wram.read n = 0x00 ∧ s.hram.read n = 0x00 ∧ s.ppu.vram.read n = 0x00 ∧ s.ppu.oam.read n = 0x00 ∧
    s.cart.cram.read n = 0x00
  screen : ∀ row col, s.ppu.fbAt row col = 0xFF ∧ s.ppu.bgpriAt row col = false
  output : s.serout = []
  extra : s.extra = { ops := [], subs := [] }

/-! The opcode table (spec/opcode_table.json). -/

/-- The cycles column: taken and not taken. The unused rows and the bare prefix, which has none of its own, are listed with their
one fetch. -/
def tableCycles : Instr → Nat × Nat
  | .nop | .incB | .decB | .rlca | .incC | .decC | .rrca | .incD | .decD | .rla | .incE | .decE | .rra | .incH |
  .decH | .daa | .incL | .decL | .cpl | .scf | .incA | .decA | .ccf | .ldBB | .ldBC | .ldBD | .ldBE | .ldBH |
  .ldBL | .ldBA | .ldCB | .ldCC | .ldCD | .ldCE | .ldCH | .ldCL | .ldCA | .ldDB | .ldDC | .ldDD | .ldDE | .ldDH
  | .ldDL | .ldDA | .ldEB | .ldEC | .ldED | .ldEE | .ldEH | .ldEL | .ldEA | .ldHB | .ldHC | .ldHD | .ldHE |
  .ldHH | .ldHL | .ldHA | .ldLB | .ldLC | .ldLD | .ldLE | .ldLH | .ldLL | .ldLA | .halt | .ldAB | .ldAC | .ldAD
  | .ldAE | .ldAH | .ldAL | .ldAA | .addAB | .addAC | .addAD | .addAE | .addAH | .addAL | .addAA | .adcAB |
  .adcAC | .adcAD | .adcAE | .adcAH | .adcAL | .adcAA | .subB | .subC | .subD | .subE | .subH | .subL | .subA |
  .sbcAB | .sbcAC | .sbcAD | .sbcAE | .sbcAH | .sbcAL | .sbcAA | .andB | .andC | .andD | .andE | .andH | .andL |
  .andA | .xorB | .xorC | .xorD | .xorE | .xorH | .xorL | .xorA | .orB | .orC | .orD | .orE | .orH | .orL | .orA
  | .cpB | .cpC | .cpD | .cpE | .cpH | .cpL | .cpA | .jpHL | .di | .ei | .cbPrefix | .unusedD3 | .unusedDB |
  .unusedDD | .unusedE3 | .unusedE4 | .unusedEB | .unusedEC | .unusedED | .unusedF4 | .unusedFC | .unusedFD => (4, 4)
  | .ldAtBCA | .incBC | .ldBn _ | .addHLBC | .ldAAtBC | .decBC | .ldCn _ | .stop _ | .ldAtDEA | .incDE | .ldDn _
  | .addHLDE | .ldAAtDE | .decDE | .ldEn _ | .ldAtHLIncA | .incHL | .ldHn _ | .addHLHL | .ldAAtHLInc | .decHL |
  .ldLn _ | .ldAtHLDecA | .incSP | .addHLSP | .ldAAtHLDec | .decSP | .ldAn _ | .ldBAtHL | .ldCAtHL | .ldDAtHL |
  .ldEAtHL | .ldHAtHL | .ldLAtHL | .ldAtHLB | .ldAtHLC | .ldAtHLD | .ldAtHLE | .ldAtHLH | .ldAtHLL | .ldAtHLA |
  .ldAAtHL | .addAAtHL | .adcAAtHL | .subAtHL | .sbcAAtHL | .andAtHL | .xorAtHL | .orAtHL | .cpAtHL | .addAn _ |
  .adcAn _ | .subn _ | .sbcAn _ | .ldAtCA | .andn _ | .xorn _ | .ldAAtC | .orn _ | .ldSPHL | .cpn _ | .rlcB |
  .rlcC | .rlcD | .rlcE | .rlcH | .rlcL | .rlcA | .rrcB | .rrcC | .rrcD | .rrcE | .rrcH | .rrcL | .rrcA | .rlB |
  .rlC | .rlD | .rlE | .rlH | .rlL | .rlA | .rrB | .rrC | .rrD | .rrE | .rrH | .rrL | .rrA | .slaB | .slaC |
  .slaD | .slaE | .slaH | .slaL | .slaA | .sraB | .sraC | .sraD | .sraE | .sraH | .sraL | .sraA | .swapB |
  .swapC | .swapD | .swapE | .swapH | .swapL | .swapA | .srlB | .srlC | .srlD | .srlE | .srlH | .srlL | .srlA |
  .bit0B | .bit0C | .bit0D | .bit0E | .bit0H | .bit0L | .bit0A | .bit1B | .bit1C | .bit1D | .bit1E | .bit1H |
  .bit1L | .bit1A | .bit2B | .bit2C | .bit2D | .bit2E | .bit2H | .bit2L | .bit2A | .bit3B | .bit3C | .bit3D |
  .bit3E | .bit3H | .bit3L | .bit3A | .bit4B | .bit4C | .bit4D | .bit4E | .bit4H | .bit4L | .bit4A | .bit5B |
  .bit5C | .bit5D | .bit5E | .bit5H | .bit5L | .bit5A | .bit6B | .bit6C | .bit6D | .bit6E | .bit6H | .bit6L |
  .bit6A | .bit7B | .bit7C | .bit7D | .bit7E | .bit7H | .bit7L | .bit7A | .res0B | .res0C | .res0D | .res0E |
  .res0H | .res0L | .res0A | .res1B | .res1C | .res1D | .res1E | .res1H | .res1L | .res1A | .res2B | .res2C |
  .res2D | .res2E | .res2H | .res2L | .res2A | .res3B | .res3C | .res3D | .res3E | .res3H | .res3L | .res3A |
  .res4B | .res4C | .res4D | .res4E | .res4H | .res4L | .res4A | .res5B | .res5C | .res5D | .res5E | .res5H |
  .res5L | .res5A | .res6B | .res6C | .res6D | .res6E | .res6H | .res6L | .res6A | .res7B | .res7C | .res7D |
  .res7E | .res7H | .res7L | .res7A | .set0B | .set0C | .set0D | .set0E | .set0H | .set0L | .set0A | .set1B |
  .set1C | .set1D | .set1E | .set1H | .set1L | .set1A | .set2B | .set2C | .set2D | .set2E | .set2H | .set2L |
  .set2A | .set3B | .set3C | .set3D | .set3E | .set3H | .set3L | .set3A | .set4B | .set4C | .set4D | .set4E |
  .set4H | .set4L | .set4A | .set5B | .set5C | .set5D | .set5E | .set5H | .set5L | .set5A | .set6B | .set6C |
  .set6D | .set6E | .set6H | .set6L | .set6A | .set7B | .set7C | .set7D | .set7E | .set7H | .set7L | .set7A => (8, 8)
  | .jrNZe _ | .jrZe _ | .jrNCe _ | .jrCe _ => (12, 8)
  | .ldBCnn _ | .ldDEnn _ | .jre _ | .ldHLnn _ | .ldSPnn _ | .incAtHL | .decAtHL | .ldAtHLn _ | .popBC | .popDE
  | .ldhAtNA _ | .popHL | .ldhAAtN _ | .popAF | .ldHLSPe _ | .bit0AtHL | .bit1AtHL | .bit2AtHL | .bit3AtHL |
  .bit4AtHL | .bit5AtHL | .bit6AtHL | .bit7AtHL => (12, 12)
  | .jpNZnn _ | .jpZnn _ | .jpNCnn _ | .jpCnn _ => (16, 12)
  | .jpnn _ | .pushBC | .rst00 | .ret | .rst08 | .pushDE | .rst10 | .reti | .rst18 | .pushHL | .rst20 |
  .addSPe _ | .ldAtNnA _ | .rst28 | .pushAF | .rst30 | .ldAAtNn _ | .rst38 | .rlcAtHL | .rrcAtHL | .rlAtHL |
  .rrAtHL | .slaAtHL | .sraAtHL | .swapAtHL | .srlAtHL | .res0AtHL | .res1AtHL | .res2AtHL | .res3AtHL |
  .res4AtHL | .res5AtHL | .res6AtHL | .res7AtHL | .set0AtHL | .set1AtHL | .set2AtHL | .set3AtHL | .set4AtHL |
  .set5AtHL | .set6AtHL | .set7AtHL => (16, 16)
  | .retNZ | .retZ | .retNC | .retC => (20, 8)
  | .ldAtNnSP _ => (20, 20)
  | .callNZnn _ | .callZnn _ | .callNCnn _ | .callCnn _ => (24, 12)
  | .callnn _ => (24, 24)

/-- A conditional row is taken (R270); every other row counts as taken. -/
def taken (i : Instr) (s : State) : Bool :=
  match i with
  | .jrNZe _ | .retNZ | .jpNZnn _ | .callNZnn _ => condHolds .nz s.regs.f
  | .jrZe _ | .retZ | .jpZnn _ | .callZnn _ => condHolds .z s.regs.f
  | .jrNCe _ | .retNC | .jpNCnn _ | .callNCnn _ => condHolds .nc s.regs.f
  | .jrCe _ | .retC | .jpCnn _ | .callCnn _ => condHolds .c s.regs.f
  | _ => true

/-- The addresses a row stores to, in order (R204 to R221, R224, R241, R242, R276, R277, R281, R290); none for a row that stores
nothing. The bare prefix may run any row that stores at HL. -/
def storesTo (i : Instr) (s : State) : List Word :=
  match i with
  | .ldAtHLIncA | .ldAtHLDecA | .incAtHL | .decAtHL | .ldAtHLn _ | .ldAtHLB | .ldAtHLC | .ldAtHLD | .ldAtHLE |
  .ldAtHLH | .ldAtHLL | .ldAtHLA | .rlcAtHL | .rrcAtHL | .rlAtHL | .rrAtHL | .slaAtHL | .sraAtHL | .swapAtHL |
  .srlAtHL | .res0AtHL | .res1AtHL | .res2AtHL | .res3AtHL | .res4AtHL | .res5AtHL | .res6AtHL | .res7AtHL |
  .set0AtHL | .set1AtHL | .set2AtHL | .set3AtHL | .set4AtHL | .set5AtHL | .set6AtHL | .set7AtHL | .cbPrefix => [s.hl]
  | .ldAtBCA => [s.bc]
  | .ldAtDEA => [s.de]
  | .ldAtNnA nn => [nn]
  | .ldhAtNA n => [0xFF00 + n.setWidth 16]
  | .ldAtCA => [0xFF00 + s.regs.c.setWidth 16]
  | .ldAtNnSP nn => [nn, nn + 1]
  | .pushBC | .rst00 | .callnn _ | .rst08 | .pushDE | .rst10 | .rst18 | .pushHL | .rst20 | .rst28 | .pushAF |
  .rst30 | .rst38 => [s.regs.sp - 1, s.regs.sp - 2]
  | .callNZnn _ | .callZnn _ | .callNCnn _ | .callCnn _ => if taken i s then [s.regs.sp - 1, s.regs.sp - 2] else []
  | _ => []

end Sys2Proof.Spec

open Sys2Proof Sys2Proof.Machine Sys2Proof.Spec

/-- The state right after construction (R502), for every ROM image and for `State.reset`. The values are the default
parameters of R56 to R58 (log 3). -/
def Obligations.ConstructionLeavesTheSpecState : Prop :=
  (∀ size bytes s, construct Config.params size bytes = some s → StartsAs s) ∧
  StartsAs State.reset ∧ construct Config.params Config.romSize [] = some State.reset

/-- Construct(rom) (R500): what it refuses (R94) and what it derives. -/
def Obligations.ConstructionChecksTheRomHeader : Prop :=
  ∀ (p : Params) (size : Nat) (bytes : List Host.Cell),
    let rom : Rom := { size := size, bytes := Memory.ofCells size bytes }
    (construct p size bytes = none ↔
      size < 0x150 ∨ 8 < (rom.byte 0x0148).toNat ∨ 5 < (rom.byte 0x0149).toNat) ∧
    ∀ s, construct p size bytes = some s →
      s.cart.rom = rom ∧ s.cart.nbanks = 2 * 2 ^ (rom.byte 0x0148).toNat ∧
      s.cart.cramSize = [0, 0x800, 0x2000, 0x8000, 0x20000, 0x10000].getD (rom.byte 0x0149).toNat 0 ∧
      s.regs = { a := p.cpu.a, f := p.cpu.f &&& 0xF0, b := p.cpu.b, c := p.cpu.c, d := p.cpu.d, e := p.cpu.e,
                 h := p.cpu.h, l := p.cpu.l, sp := p.cpu.sp, pc := p.cpu.pc } ∧
      s.ime = false ∧ s.halted = false ∧ s.cyc = 0 ∧ s.fault = none ∧ s.ppu.ly = 0 ∧ s.ppu.pcnt = 0 ∧
      s.ppu.mode = (if p.io.lcdc.getLsbD 7 then .oamScan else .hblank)

/-- The invariant holds at construction and at `State.reset`. -/
def Obligations.ConstructionMeetsTheInvariant : Prop :=
  (∀ p size bytes s, construct p size bytes = some s → s.Inv) ∧ State.reset.Inv

/-- The invariant is kept by every step, whatever instruction, interrupt or fault it runs. -/
def Obligations.StepKeepsTheInvariant : Prop :=
  ∀ s t, s.Inv → step s = .next t → t.Inv

/-- The host's events keydown and keyup (R451, R452), with the bits of R450. That they keep the invariant is the model's
own claim, stated by no rule. -/
def Obligations.KeyEventsKeepTheInvariant : Prop :=
  ∀ (s : State) (k : Key),
    (∃ keys, keydown k s = { s with joy := { s.joy with keys := keys }, ifr := s.ifr ||| 0x10 } ∧
      ∀ j, j < 8 → keys.getLsbD j = if j = keyBit k then false else s.joy.keys.getLsbD j) ∧
    (∃ keys, keyup k s = { s with joy := { s.joy with keys := keys } } ∧
      ∀ j, j < 8 → keys.getLsbD j = if j = keyBit k then true else s.joy.keys.getLsbD j) ∧
    (s.Inv → (keydown k s).Inv ∧ (keyup k s).Inv)

/-- The machine's constants and outputs over any step, faulted or not. -/
def Obligations.StepNeverChangesTheConstants : Prop :=
  ∀ s t, step s = .next t →
    t.cart.rom = s.cart.rom ∧ t.cart.nbanks = s.cart.nbanks ∧ t.cart.cramSize = s.cart.cramSize ∧
    t.extra = s.extra ∧ t.ppu.fbInit = s.ppu.fbInit ∧ t.joy.keys = s.joy.keys ∧ ∃ out, t.serout = s.serout ++ out

/-- The round trip over the whole instruction set. -/
def Obligations.DecodeInvertsEncode : Prop :=
  (∀ (i : Instr) (rest : List Byte), i.wellFormed = true → i ≠ .cbPrefix → decode (encode i ++ rest) = .instr i rest) ∧
  decode (encode .cbPrefix) = .instr .cbPrefix []

/-- The other direction of the round trip: decoding loses nothing. -/
def Obligations.EncodeInvertsDecode : Prop :=
  ∀ (bs : List Byte) (i : Instr) (rest : List Byte), decode bs = .instr i rest →
    i.wellFormed = true ∧ encode i ++ rest = bs

/-- Totality and lengths of decoding (R132), and its one rejection (R129, R131). -/
def Obligations.OnlyStopRejectsACompleteWord : Prop :=
  ∀ op b1 b2 : Byte,
    (op = 0x10 ∧ b1 ≠ 0x00 → decode [op, b1, b2] = .rejected (.stopTrailing b1)) ∧
    (¬(op = 0x10 ∧ b1 ≠ 0x00) →
      ∃ i rest, decode [op, b1, b2] = .instr i rest ∧ rest.length = 2 - operandBytes op ∧ operandBytes op ≤ 2)

/-- A sanity statement: words of the opcode map (R133, R134) and their rows. -/
def Obligations.SpecWordsDecode : Prop :=
  [decode [0x00], decode [0x01, 0x34, 0x12], decode [0x48], decode [0x3E, 0x99], decode [0x66], decode [0x77],
   decode [0x08, 0x00, 0xC1], decode [0x22], decode [0xF8, 0x02], decode [0xC5], decode [0xF1], decode [0x9F],
   decode [0xFE, 0x40], decode [0x34], decode [0x29], decode [0x27], decode [0x20, 0xFC], decode [0xCD, 0x10, 0x01],
   decode [0xD8], decode [0xEF], decode [0xCB, 0x37], decode [0xCB, 0x7C], decode [0x76], decode [0xD3]] =
  [.instr .nop [], .instr (.ldBCnn 0x1234) [], .instr .ldCB [], .instr (.ldAn 0x99) [], .instr .ldHAtHL [],
   .instr .ldAtHLA [], .instr (.ldAtNnSP 0xC100) [], .instr .ldAtHLIncA [], .instr (.ldHLSPe 0x02) [], .instr .pushBC [],
   .instr .popAF [], .instr .sbcAA [], .instr (.cpn 0x40) [], .instr .incAtHL [], .instr .addHLHL [], .instr .daa [],
   .instr (.jrNZe 0xFC) [], .instr (.callnn 0x0110) [], .instr .retC [], .instr .rst28 [], .instr .swapA [],
   .instr .bit7H [], .instr .halt [], .instr .unusedD3 []]

/-- One step around `exec` (R402, R404, R405). That a step which raises an error answers a NEXT state holding it
(StepEnds.faulted) is the model's choice (log 1): R401 and R402 have that step return the fault. An error of the
dispatch's push keeps the device advance made before it (log 16). -/
def Obligations.StepRunsTheDecodedInstruction : Prop :=
  ∀ (s : State) (bs : List Byte) (i : Instr) (op : Byte) (rest : List Byte),
    Fetches s → bs = op :: rest → Fetched s bs → i ≠ .cbPrefix → decode bs = .instr i [] → op ∉ s.extra.ops →
    (op = 0xCB → ∀ b ∈ rest, b ∉ s.extra.subs) →
    ∀ t, exec i (afterFetch s bs.length) = .next t → StepEnds t (step s)

/-- R401: a machine that holds a fault answers it at every step. That a step which raises an error answers a NEXT state
holding it, so that only a held fault is answered, is the model's choice (log 1): R401 has the raising step itself
return the fault. No instruction is refused (log 11). -/
def Obligations.StepStopsExactlyOnAHeldFault : Prop :=
  ∀ s : State, (∀ f, step s = .fault f ↔ s.fault = some f) ∧ (∀ r, step s ≠ .refused r) ∧
    (s.fault = none → ∃ t, step s = .next t)

/-- The halted step (R403). An error of the dispatch's push is answered by a next state which holds it (log 1) and keeps
the device advance made before it (log 16). -/
def Obligations.HaltedStepCharges4 : Prop :=
  ∀ s : State, s.fault = none → s.halted = true → StepEnds { s with cyc := 4 } (step s)

/-- Every way a fetch or a decode faults (R312, R315, R136, R290, R401). That a raised error is answered by a next state
which holds it is the model's reading of R401 (log 1). -/
def Obligations.FetchFaultsKeepTheStateReached : Prop :=
  ∀ s : State, Fetches s →
    (∀ f, busRead s s.regs.pc = .error f → step s = .next (({ s with cyc := 4 }).withFault f)) ∧
    (∀ op, Fetched s [op] → op ∈ s.extra.ops →
      step s = .next ((afterFetch s 1).withFault (.decodeError s.regs.pc op))) ∧
    (∀ op f, Fetched s [op] → op ∉ s.extra.ops → 1 ≤ operandBytes op → busRead s (s.regs.pc + 1) = .error f →
      step s = .next (({ afterFetch s 1 with cyc := 8 }).withFault f)) ∧
    (∀ op b f, Fetched s [op, b] → op ∉ s.extra.ops → 2 ≤ operandBytes op → busRead s (s.regs.pc + 2) = .error f →
      step s = .next (({ afterFetch s 2 with cyc := 12 }).withFault f)) ∧
    (∀ b, Fetched s [0xCB, b] → 0xCB ∉ s.extra.ops → b ∈ s.extra.subs →
      step s = .next ((afterFetch s 2).withFault (.decodeError s.regs.pc b))) ∧
    (∀ u, Fetched s [0x10, u] → 0x10 ∉ s.extra.ops → u ≠ 0x00 →
      step s = .next ((afterFetch s 2).withFault (.decodeError s.regs.pc u))) ∧
    (∀ op, op ∈ [0xD3#8, 0xDB#8, 0xDD#8, 0xE3#8, 0xE4#8, 0xEB#8, 0xEC#8, 0xED#8, 0xF4#8, 0xFC#8, 0xFD#8] →
      Fetched s [op] → step s = .next ((afterFetch s 1).withFault (.decodeError s.regs.pc op)))

/-- Taking an interrupt (R408 to R413). That a push which raises an error is answered by a next state which holds it is
the model's reading of R401 (log 1), and so is that what R402 and R410 did before the push stays (log 16). -/
def Obligations.DispatchTakesTheLowestPending : Prop :=
  ∀ s : State,
    ((s.ime = false ∨ ∀ i, ¬ Pending s i) → dispatchCheck s = .next s) ∧
    ((∀ i, ¬ Pending s i) ↔ s.ie &&& s.ifr &&& 0x1F = 0) ∧
    ∀ i, s.ime = true → Lowest s i →
      (s.MemoryWf → WriteOk s (s.regs.sp - 1) (hiByte s.regs.pc) → WriteOk s (s.regs.sp - 2) (loByte s.regs.pc) →
        ∃ t, PushEffect (dispatchBase s i) s.regs.pc t ∧
          dispatchCheck s = .next (t.setPc (BitVec.ofNat 16 (0x40 + 8 * number i)))) ∧
      ∀ f t, PushFault (dispatchBase s i) s.regs.pc f t → dispatchCheck s = .next (t.withFault f)

/-- Whole-machine rules about halted and IME (R35, R36, R462), over all 512 instructions. -/
def Obligations.OnlyHaltHaltsAndOnlyDiEiRetiChangeIme : Prop :=
  ∀ (i : Instr) (s t : State), exec i s = .next t →
    (t.halted ≠ s.halted → i = .halt ∧ s.ime = true ∧ t.halted = true) ∧
    (t.ime ≠ s.ime → (i = .di ∧ t.ime = false) ∨ ((i = .ei ∨ i = .reti) ∧ t.ime = true))

/-- The memory frame of the whole instruction set: `storesTo` computes the addresses stored to, and `Touches` the reads
that a store to such an address may change. -/
def Obligations.ReadsChangeOnlyWhereAStoreTouches : Prop :=
  ∀ (i : Instr) (s t : State) (b : Word), exec i s = .next t →
    (∀ a ∈ storesTo i s, ∀ v, ¬ Touches s a v b) → busRead t b = busRead s b

/-- The cycles of the opcode maps (R133, R134, R520), taken from spec/opcode_table.json row by row. -/
def Obligations.CycleCounts : Prop :=
  ∀ (i : Instr) (s t : State), i ≠ .cbPrefix → exec i s = .next t → s.fault = none → t.fault = none →
    4 * (encode i).length + t.cyc =
      s.cyc + (if taken i s then (tableCycles i).1 else (tableCycles i).2) + 1280 * (storesTo i s).count 0xFF46

/-- The unmapped addresses (R75). -/
def Obligations.UnmappedAddressesReadZeroAndDropWrites : Prop :=
  ∀ (s : State) (a : Word) (v : Byte),
    (Within 0xE000 0xFDFF a ∨ Within 0xFEA0 0xFEFF a ∨ Within 0xFF01 0xFF03 a ∨ Within 0xFF08 0xFF0E a ∨
      Within 0xFF10 0xFF3F a ∨ a = 0xFF46 ∨ Within 0xFF4C 0xFF7F a → busRead s a = .ok 0x00) ∧
    (Within 0xE000 0xFDFF a ∨ Within 0xFEA0 0xFEFF a ∨ Within 0xFF02 0xFF03 a ∨ Within 0xFF08 0xFF0E a ∨
      Within 0xFF10 0xFF3F a ∨ Within 0xFF4C 0xFF7F a → memWrite a v s = .ok () (s.charge 4))

/-- When a read faults (R95), and what MemRead changes (R71, R102). -/
def Obligations.ReadsFaultExactlyOutsideTheCartridge : Prop :=
  ∀ (s : State) (a : Word),
    (ReadOk s a → ∃ v, busRead s a = .ok v ∧ memRead a s = .ok v (s.charge 4)) ∧
    (¬ ReadOk s a → busRead s a = .error (.boundsError a) ∧ memRead a s = .error (.boundsError a) (s.charge 4)) ∧
    (0x8000 ≤ a.toNat → ¬ Within 0xA000 0xBFFF a → ReadOk s a)

/-- The shared store operation, every outcome (R74, R81, R82, R95, R401). -/
def Obligations.MemWriteDoesWhatTheBusSays : Prop :=
  ∀ (s : State) (a : Word) (v : Byte), s.MemoryWf →
    (WriteOk s a v → ∃ t, memWrite a v s = .ok () t ∧ StoreEffect s a v t) ∧
    (Within 0xA000 0xBFFF a → s.cart.ramen = true → s.cart.cramSize ≤ cramIndex s.cart a →
      memWrite a v s = .error (.boundsError a) (s.charge 4)) ∧
    (v.toNat < 0x80 ∨ 0xDF < v.toNat → memWrite 0xFF46 v s = .error (.configError v) (s.charge 4)) ∧
    ∀ k, k < 160 → 0x80 ≤ v.toNat → v.toNat ≤ 0xDF → (∀ i, i < k → ReadOk s (dmaSource v i)) →
      ¬ ReadOk s (dmaSource v k) →
      ∃ oam, memWrite 0xFF46 v s =
          .error (.boundsError (dmaSource v k)) { s with cyc := s.cyc + 8 + 8 * k, ppu := { s.ppu with oam := oam } } ∧
        (s.ppu.oamOpen = false → oam = s.ppu.oam) ∧
        (s.ppu.oamOpen = true → (∀ i, i < k → busRead s (dmaSource v i) = .ok (oam.read i)) ∧
          ∀ i, k ≤ i → oam.read i = s.ppu.oam.read i)

/-- Read after write, and the canonical form of every memory (R76, R77, R83, R84, R92). -/
def Obligations.StoredBytesReadBack : Prop :=
  ∀ (s t : State) (a : Word) (v : Byte), s.MemoryWf → busStore s a v = .ok t →
    t.MemoryWf ∧
    (Within 0xC000 0xDFFF a ∨ Within 0xFF80 0xFFFE a ∨ (Within 0x8000 0x9FFF a ∧ s.ppu.mode ≠ .transfer) ∨
      (Within 0xFE00 0xFE9F a ∧ (s.ppu.mode = .hblank ∨ s.ppu.mode = .vblank)) ∨
      (Within 0xA000 0xBFFF a ∧ s.cart.ramen = true) → busRead t a = .ok v) ∧
    (Within 0xC000 0xDFFF a → t = { s with wram := t.wram } ∧ t.wram.read (a.toNat - 0xC000) = v ∧
      ∀ n, n ≠ a.toNat - 0xC000 → t.wram.read n = s.wram.read n) ∧
    (Within 0xFF80 0xFFFE a → t = { s with hram := t.hram } ∧ t.hram.read (a.toNat - 0xFF80) = v ∧
      ∀ n, n ≠ a.toNat - 0xFF80 → t.hram.read n = s.hram.read n)

/-- The mode gating of VRAM (R83) and OAM (R84). -/
def Obligations.VramAndOamAreGatedByTheMode : Prop :=
  ∀ (s : State) (a : Word) (v : Byte),
    (Within 0x8000 0x9FFF a →
      busRead s a = .ok (if s.ppu.mode = .transfer then 0xFF else s.ppu.vram.read (a.toNat - 0x8000)) ∧
      busStore s a v = .ok (if s.ppu.mode = .transfer then s
        else { s with ppu := { s.ppu with vram := s.ppu.vram.write (a.toNat - 0x8000) v } })) ∧
    (Within 0xFE00 0xFE9F a →
      busRead s a = .ok (if s.ppu.mode = .hblank ∨ s.ppu.mode = .vblank then s.ppu.oam.read (a.toNat - 0xFE00) else 0xFF) ∧
      busStore s a v = .ok (if s.ppu.mode = .hblank ∨ s.ppu.mode = .vblank
        then { s with ppu := { s.ppu with oam := s.ppu.oam.write (a.toNat - 0xFE00) v } } else s)) ∧
    (s.Inv → s.ppu.lcdc.getLsbD 7 = false → s.ppu.mode = .hblank)

/-- MBC1 bank selection (R85, R86). R97 does not follow from R86 (log 12), so its claim is stated with the premise it
needs. -/
def Obligations.SwitchableBankFollowsTheLatches : Prop :=
  ∀ (s : State) (a : Word), s.cart.SizesLegal →
    let c := s.cart
    let lo := if c.lo = 0 then 1 else c.lo.toNat
    let hi := if c.bmode then 0 else c.hi.toNat
    effBank c = (32 * hi + lo) % c.nbanks ∧
    (c.lo = 0 ∨ 32 * hi + lo < c.nbanks → effBank c ∉ [0, 0x20, 0x40, 0x60]) ∧
    (c.lo = 0 → c.hi = 0 → effBank c = 1) ∧ (c.nbanks = 2 → c.lo = 2 → effBank c = 0) ∧
    (a.toNat ≤ 0x3FFF → ReadOk s a → busRead s a = .ok (c.rom.byte a.toNat)) ∧
    (Within 0x4000 0x7FFF a → ReadOk s a → busRead s a = .ok (c.rom.byte (0x4000 * effBank c + (a.toNat - 0x4000))))

/-- The MBC1 latches (R88 to R91), and "No write ever changes ROM" (R92) over every address. -/
def Obligations.RomWritesSetTheLatches : Prop :=
  ∀ (s : State) (a : Word) (v : Byte),
    (a.toNat ≤ 0x7FFF → busStore s a v = .ok { s with cart :=
      if a.toNat ≤ 0x1FFF then { s.cart with ramen := decide (v.toNat % 16 = 0x0A) }
      else if a.toNat ≤ 0x3FFF then { s.cart with lo := BitVec.ofNat 5 (v.toNat % 32) }
      else if a.toNat ≤ 0x5FFF then { s.cart with hi := BitVec.ofNat 2 (v.toNat % 4) }
      else { s.cart with bmode := decide (v.toNat % 2 = 1) } }) ∧
    (∀ t, busStore s a v = .ok t → t.cart.rom = s.cart.rom) ∧
    (∀ t, memWrite a v s = .ok () t → t.cart.rom = s.cart.rom) ∧
    (∀ f t, memWrite a v s = .error f t → t.cart.rom = s.cart.rom)

/-- External RAM (R87, R92, R93). -/
def Obligations.ExternalRamObeysEnableAndBank : Prop :=
  ∀ (s : State) (a : Word) (v : Byte), Within 0xA000 0xBFFF a →
    let i := a.toNat - 0xA000 + 0x2000 * (if s.cart.bmode then s.cart.hi.toNat else 0)
    (s.cart.ramen = false → busRead s a = .ok 0xFF ∧ busStore s a v = .ok s) ∧
    (s.cart.ramen = true → i < s.cart.cramSize →
      busRead s a = .ok (s.cart.cram.read i) ∧
      busStore s a v = .ok { s with cart := { s.cart with cram := s.cart.cram.write i v } }) ∧
    (s.cart.ramen = true → s.cart.cramSize ≤ i →
      busRead s a = .error (.boundsError a) ∧ busStore s a v = .error (.boundsError a))

/-- IF, IE (R78) and SEROUT (R79). -/
def Obligations.InterruptAndOutputRegisters : Prop :=
  ∀ (s : State) (v : Byte),
    busRead s 0xFF0F = .ok s.ifr ∧ busStore s 0xFF0F v = .ok { s with ifr := v } ∧
    busRead s 0xFFFF = .ok s.ie ∧ busStore s 0xFFFF v = .ok { s with ie := v } ∧
    busRead s 0xFF01 = .ok 0x00 ∧ busStore s 0xFF01 v = .ok { s with serout := s.serout ++ [v] }

/-- The joypad register (R453, R454). -/
def Obligations.JoypadRegisterSelectsAKeyNibble : Prop :=
  ∀ (s : State) (v : Byte),
    (∃ r, busRead s 0xFF00 = .ok r ∧
      (s.joy.jsel.getLsbD 4 = false → r.toNat = s.joy.jsel.toNat / 16 * 16 + s.joy.keys.toNat / 16) ∧
      (s.joy.jsel.getLsbD 4 = true → s.joy.jsel.getLsbD 5 = false →
        r.toNat = s.joy.jsel.toNat / 16 * 16 + s.joy.keys.toNat % 16) ∧
      (s.joy.jsel.getLsbD 4 = true → s.joy.jsel.getLsbD 5 = true → r = s.joy.jsel)) ∧
    ∃ j, busStore s 0xFF00 v = .ok { s with joy := { s.joy with jsel := j } } ∧
      ∀ k, k < 8 → j.getLsbD k = if k = 4 ∨ k = 5 then v.getLsbD k else s.joy.jsel.getLsbD k

/-- The Timer's advance (R420 to R422). -/
def Obligations.TimerCountsEveryMultiple : Prop :=
  ∀ (s : State) (t : Nat),
    let ratio := [1024, 16, 64, 256].getD (s.timer.tac.toNat % 4) 0
    let n := (s.timer.divc.toNat + t) / ratio - s.timer.divc.toNat / ratio
    ∃ divc tima ifr, timerUpdate t s = { s with timer := { s.timer with divc := divc, tima := tima }, ifr := ifr } ∧
      divc.toNat = (s.timer.divc.toNat + t) % 65536 ∧
      (s.timer.tac.getLsbD 2 = false → tima = s.timer.tima ∧ ifr = s.ifr) ∧
      (s.timer.tac.getLsbD 2 = true → s.timer.tima.toNat + n ≤ 255 →
        tima.toNat = s.timer.tima.toNat + n ∧ ifr = s.ifr) ∧
      (s.timer.tac.getLsbD 2 = true → 255 < s.timer.tima.toNat + n →
        tima.toNat = (s.timer.tma.toNat + (n - 1)) % 256 ∧ ifr = s.ifr ||| 0x04)

/-- The Timer's registers (R423, R424, R43). -/
def Obligations.TimerRegistersOnTheBus : Prop :=
  ∀ (s : State) (v : Byte),
    (∃ r, busRead s 0xFF04 = .ok r ∧ r.toNat = s.timer.divc.toNat / 256) ∧
    busStore s 0xFF04 v = .ok { s with timer := { s.timer with divc := 0 } } ∧
    busRead s 0xFF05 = .ok s.timer.tima ∧ busStore s 0xFF05 v = .ok { s with timer := { s.timer with tima := v } } ∧
    busRead s 0xFF06 = .ok s.timer.tma ∧ busStore s 0xFF06 v = .ok { s with timer := { s.timer with tma := v } } ∧
    (∃ r, busRead s 0xFF07 = .ok r ∧ r.toNat = s.timer.tac.toNat) ∧
    ∃ tac, busStore s 0xFF07 v = .ok { s with timer := { s.timer with tac := tac } } ∧ tac.toNat = v.toNat % 8

/-- What a device advance can change, and that the order of Timer and PPU is immaterial (R405, R407). -/
def Obligations.DevicesOnlyRequestInterrupts : Prop :=
  ∀ (n : Nat) (s : State),
    ppuUpdate n (timerUpdate n s) = timerUpdate n (ppuUpdate n s) ∧
    let t := ppuUpdate n (timerUpdate n s)
    t = { s with
      timer := { s.timer with divc := t.timer.divc, tima := t.timer.tima }
      ppu := { s.ppu with mode := t.ppu.mode, pcnt := t.ppu.pcnt, ly := t.ppu.ly, coinc := t.ppu.coinc,
                          fb := t.ppu.fb, bgpri := t.ppu.bgpri }
      ifr := t.ifr } ∧
    ∃ m : Byte, t.ifr = s.ifr ||| m ∧ m.toNat < 8

/-- PpuUpdate is additive in its cycles (R431: every transition owed is processed, the remainder carried). -/
def Obligations.PpuUpdateComposes : Prop :=
  ∀ (a b : Nat) (s : State), ppuUpdate (a + b) s = ppuUpdate b (ppuUpdate a s)

/-- The timing laws of a frame (R435), for every number of cycles. -/
def Obligations.PpuPositionFollowsTheFrame : Prop :=
  ∀ (s : State) (t : Nat), FrameStart s →
    let u := ppuUpdate t s
    let line := t % 70224 / 456
    u.ppu.ly.toNat = line ∧ (u.ppu.mode, u.ppu.pcnt.toNat) = linePosition line (t % 70224 % 456) ∧
    (u.ifr.getLsbD 0 = true ↔ s.ifr.getLsbD 0 = true ∨ 65664 ≤ t)

/-- The transitions of the mode machine (R431 to R434), each with its requests. -/
def Obligations.ModeTransitionsRequestTheirInterrupts : Prop :=
  ∀ s : State,
    let up := s.ppu.ly + 1
    let statIf (b : Bool) : Byte := if b then 0x02 else 0x00
    (s.ppu.mode = .oamScan → modeEnds s = { s with ppu := renderScanline { s.ppu with mode := .transfer } }) ∧
    (s.ppu.mode = .transfer → modeEnds s =
      { s with ppu := { s.ppu with mode := .hblank }, ifr := s.ifr ||| statIf (s.ppu.staten.getLsbD 0) }) ∧
    (s.ppu.mode = .hblank → up ≠ 144 → modeEnds s =
      { s with ppu := { s.ppu with mode := .oamScan, ly := up, coinc := decide (up = s.ppu.lyc) }
               ifr := s.ifr ||| statIf (decide (up = s.ppu.lyc) && s.ppu.staten.getLsbD 3) |||
                 statIf (s.ppu.staten.getLsbD 2) }) ∧
    (s.ppu.mode = .hblank → up = 144 → modeEnds s =
      { s with ppu := { s.ppu with mode := .vblank, ly := 144, coinc := decide (144 = s.ppu.lyc) }
               ifr := s.ifr ||| statIf (decide (144 = s.ppu.lyc) && s.ppu.staten.getLsbD 3) |||
                 statIf (s.ppu.staten.getLsbD 1) ||| 0x01 }) ∧
    (s.ppu.mode = .vblank → s.ppu.ly ≠ 153 → modeEnds s =
      { s with ppu := { s.ppu with ly := up, coinc := decide (up = s.ppu.lyc) }
               ifr := s.ifr ||| statIf (decide (up = s.ppu.lyc) && s.ppu.staten.getLsbD 3) }) ∧
    (s.ppu.mode = .vblank → s.ppu.ly = 153 → modeEnds s =
      { s with ppu := { s.ppu with mode := .oamScan, ly := 0, coinc := decide (0 = s.ppu.lyc) }
               ifr := s.ifr ||| statIf (decide (0 = s.ppu.lyc) && s.ppu.staten.getLsbD 3) |||
                 statIf (s.ppu.staten.getLsbD 2) })

/-- The display toggle (R438) and the frozen PPU (R430). -/
def Obligations.DisplayToggleRestartsTheFrame : Prop :=
  ∀ (s : State) (v : Byte) (n : Nat),
    (v.getLsbD 7 = s.ppu.lcdc.getLsbD 7 → busStore s 0xFF40 v = .ok { s with ppu := { s.ppu with lcdc := v } }) ∧
    (v.getLsbD 7 = true → s.ppu.lcdc.getLsbD 7 = false → busStore s 0xFF40 v =
      .ok { s with ppu := { s.ppu with lcdc := v, ly := 0, pcnt := 0, mode := .oamScan }
                   ifr := s.ifr ||| if s.ppu.staten.getLsbD 2 then 0x02 else 0x00 }) ∧
    (v.getLsbD 7 = false → s.ppu.lcdc.getLsbD 7 = true → busStore s 0xFF40 v =
      .ok { s with ppu := { s.ppu with lcdc := v, ly := 0, pcnt := 0, mode := .hblank }
                   ifr := s.ifr ||| if s.ppu.staten.getLsbD 0 then 0x02 else 0x00 }) ∧
    (s.ppu.lcdc.getLsbD 7 = false → ppuUpdate n s = s)

/-- The PPU register file (10_state.md R45 to R47; R439). -/
def Obligations.PpuRegistersOnTheBus : Prop :=
  ∀ (s : State) (v : Byte),
    let set (p : Ppu) : Except Fault State := .ok { s with ppu := p }
    busRead s 0xFF40 = .ok s.ppu.lcdc ∧
    (∃ r, busRead s 0xFF41 = .ok r ∧ r.toNat = 8 * s.ppu.staten.toNat + 4 * s.ppu.coinc.toNat +
      (match s.ppu.mode with | .hblank => 0 | .vblank => 1 | .oamScan => 2 | .transfer => 3)) ∧
    (∃ n, busStore s 0xFF41 v = set { s.ppu with staten := n } ∧ n.toNat = v.toNat / 8 % 16) ∧
    busRead s 0xFF44 = .ok s.ppu.ly ∧ busStore s 0xFF44 v = .ok s ∧
    busRead s 0xFF42 = .ok s.ppu.scy ∧ busStore s 0xFF42 v = set { s.ppu with scy := v } ∧
    busRead s 0xFF43 = .ok s.ppu.scx ∧ busStore s 0xFF43 v = set { s.ppu with scx := v } ∧
    busRead s 0xFF45 = .ok s.ppu.lyc ∧ busStore s 0xFF45 v = set { s.ppu with lyc := v } ∧
    busRead s 0xFF47 = .ok s.ppu.bgp ∧ busStore s 0xFF47 v = set { s.ppu with bgp := v } ∧
    busRead s 0xFF48 = .ok s.ppu.obp0 ∧ busStore s 0xFF48 v = set { s.ppu with obp0 := v } ∧
    busRead s 0xFF49 = .ok s.ppu.obp1 ∧ busStore s 0xFF49 v = set { s.ppu with obp1 := v } ∧
    busRead s 0xFF4A = .ok s.ppu.wy ∧ busStore s 0xFF4A v = set { s.ppu with wy := v } ∧
    busRead s 0xFF4B = .ok s.ppu.wx ∧ busStore s 0xFF4B v = set { s.ppu with wx := v }

/-- The scanline renderer (R440 to R445). The window is stated in closed form, not by the loop's latch. -/
def Obligations.RendererDrawsBackgroundAndWindow : Prop :=
  ∀ (p : Ppu) (row x : Nat), p.ly.toNat < 144 → x < 160 →
    Sparse.wf p.fbInit (160 * 144) p.fb → Sparse.wf false (160 * 144) p.bgpri →
    let q := renderScanline p
    q = { p with fb := q.fb, bgpri := q.bgpri } ∧
    (row ≠ p.ly.toNat → q.fbAt row x = p.fbAt row x ∧ q.bgpriAt row x = p.bgpriAt row x) ∧
    (row = p.ly.toNat → p.lcdc.getLsbD 0 = false → q.fbAt row x = 0xFF ∧ q.bgpriAt row x = false) ∧
    (row = p.ly.toNat → p.lcdc.getLsbD 0 = true →
      q.fbAt row x = shadeOf p.bgp (lineColour p row x) ∧ (q.bgpriAt row x = true ↔ lineColour p row x ≠ 0))

/-- R447: sprites are never drawn. -/
def Obligations.SpritesNeverReachTheScreen : Prop :=
  ∀ (p : Ppu) (oam : Memory) (obp0 obp1 lcdc : Byte),
    (∀ k, k < 8 → k ≠ 1 → k ≠ 2 → lcdc.getLsbD k = p.lcdc.getLsbD k) →
    let q := { p with oam := oam, obp0 := obp0, obp1 := obp1, lcdc := lcdc }
    (renderScanline q).fb = (renderScanline p).fb ∧ (renderScanline q).bgpri = (renderScanline p).bgpri

/-- The register file (R30 to R33), the vocabulary of the statements below. -/
def Obligations.RegisterFileReadsAndWrites : Prop :=
  ∀ (s : State),
    (∀ r q v, (s.setReg r v).reg q = if q = r then v else s.reg q) ∧
    (∀ r v, s.setReg r v = { s with regs := (s.setReg r v).regs } ∧ (s.setReg r v).regs.f = s.regs.f ∧
      (s.setReg r v).regs.sp = s.regs.sp ∧ (s.setReg r v).regs.pc = s.regs.pc) ∧
    (s.bc.toNat = 256 * s.regs.b.toNat + s.regs.c.toNat ∧ s.de.toNat = 256 * s.regs.d.toNat + s.regs.e.toNat ∧
      s.hl.toNat = 256 * s.regs.h.toNat + s.regs.l.toNat ∧ s.af.toNat = 256 * s.regs.a.toNat + s.regs.f.toNat) ∧
    (∀ p q v, (s.setRp p v).rp q = if q = p then v else s.rp q) ∧
    (∀ p v, s.setRp p v = { s with regs := (s.setRp p v).regs } ∧ (s.setRp p v).regs.a = s.regs.a ∧
      (s.setRp p v).regs.f = s.regs.f ∧ (s.setRp p v).regs.pc = s.regs.pc) ∧
    (∀ v : Word, (s.setAf v) = { s with regs := { s.regs with a := (s.setAf v).regs.a, f := (s.setAf v).regs.f } } ∧
      (s.setAf v).regs.a.toNat = v.toNat / 256 ∧ (s.setAf v).regs.f.toNat = v.toNat % 256 / 16 * 16) ∧
    (∀ p v, s.setRp2 p v = match p with | .bc => s.setRp .bc v | .de => s.setRp .de v | .hl => s.setRp .hl v
                                        | .af => s.setAf v) ∧
    ∀ g : Flags, s.setFlags g = { s with regs := { s.regs with f := (s.setFlags g).regs.f } } ∧
      (s.setFlags g).flags = g ∧
      (s.setFlags g).regs.f.toNat = 128 * g.z.toNat + 64 * g.n.toNat + 32 * g.h.toNat + 16 * g.c.toNat

/-- The loads that touch no memory (R201, R202, R220, R222, R223).
Constructors that complete by it: ldBB, ldBC, ldBD, ldBE, ldBH, ldBL, ldBA, ldCB, ldCC, ldCD, ldCE, ldCH, ldCL, ldCA,
ldDB, ldDC, ldDD, ldDE, ldDH, ldDL, ldDA, ldEB, ldEC, ldED, ldEE, ldEH, ldEL, ldEA, ldHB, ldHC, ldHD, ldHE, ldHH,
ldHL, ldHA, ldLB, ldLC, ldLD, ldLE, ldLH, ldLL, ldLA, ldAB, ldAC, ldAD, ldAE, ldAH, ldAL, ldAA, ldBn, ldCn, ldDn,
ldEn, ldHn, ldLn, ldAn, ldBCnn, ldDEnn, ldHLnn, ldSPnn, ldSPHL, ldHLSPe. -/
def Obligations.RegisterLoads : Prop :=
  (∀ dst src, Runs (Row.ldRR dst src) (fun s => s.setReg dst (s.reg src))) ∧
  (∀ r n, Runs (Row.ldRN r n) (fun s => s.setReg r n)) ∧
  (∀ p nn, Runs (Row.ldRpNn p nn) (fun s => s.setRp p nn)) ∧
  Runs .ldSPHL (fun s => (s.charge 4).setSp s.hl) ∧
  ∀ e s, ∃ g : Flags,
    exec (.ldHLSPe e) s =
      .next (((s.charge 4).setHl (BitVec.ofInt 16 (s.regs.sp.toNat + e.toInt))).setFlags g) ∧
    g.z = false ∧ g.n = false ∧ (g.h = true ↔ s.regs.sp.toNat % 16 + e.toNat % 16 > 15) ∧
    (g.c = true ↔ s.regs.sp.toNat % 256 + e.toNat > 255)

/-- The loads from memory (R203, R206, R207, R210, R212, R214, R218, R219). That a raised error is answered by a next
state which holds it is the model's reading of R401 (log 1).
Constructors that complete by it: ldBAtHL, ldCAtHL, ldDAtHL, ldEAtHL, ldHAtHL, ldLAtHL, ldAAtHL, ldAAtBC, ldAAtDE,
ldAAtNn, ldhAAtN, ldAAtC, ldAAtHLInc, ldAAtHLDec. -/
def Obligations.MemoryLoads : Prop :=
  (∀ r, Loads (Row.ldRHl r) State.hl (fun v s => s.setReg r v)) ∧
  Loads .ldAAtBC State.bc (fun v s => s.setReg .a v) ∧
  Loads .ldAAtDE State.de (fun v s => s.setReg .a v) ∧
  (∀ nn, Loads (.ldAAtNn nn) (fun _ => nn) (fun v s => s.setReg .a v)) ∧
  (∀ n, Loads (.ldhAAtN n) (fun _ => 0xFF00 + n.setWidth 16) (fun v s => s.setReg .a v)) ∧
  Loads .ldAAtC (fun s => 0xFF00 + s.regs.c.setWidth 16) (fun v s => s.setReg .a v) ∧
  Loads .ldAAtHLInc State.hl (fun v s => (s.setReg .a v).setHl (s.hl + 1)) ∧
  Loads .ldAAtHLDec State.hl (fun v s => (s.setReg .a v).setHl (s.hl - 1)) ∧
  ∀ (s : State) (n : Byte), ∃ v, busRead s (0xFF00 + n.setWidth 16) = .ok v

/-- The byte stores (R204, R205, R208, R209, R211, R213, R215 to R217). That a raised error is answered by a next state
which holds it is the model's reading of R401 (log 1).
Constructors that complete by it: ldAtHLB, ldAtHLC, ldAtHLD, ldAtHLE, ldAtHLH, ldAtHLL, ldAtHLA, ldAtHLn, ldAtBCA,
ldAtDEA, ldAtNnA, ldhAtNA, ldAtCA, ldAtHLIncA, ldAtHLDecA. -/
def Obligations.MemoryStores : Prop :=
  (∀ r, Stores (Row.ldHlR r) State.hl (fun s => s.reg r) id) ∧
  (∀ n, Stores (.ldAtHLn n) State.hl (fun _ => n) id) ∧
  Stores .ldAtBCA State.bc (fun s => s.regs.a) id ∧
  Stores .ldAtDEA State.de (fun s => s.regs.a) id ∧
  (∀ nn, Stores (.ldAtNnA nn) (fun _ => nn) (fun s => s.regs.a) id) ∧
  (∀ n, Stores (.ldhAtNA n) (fun _ => 0xFF00 + n.setWidth 16) (fun s => s.regs.a) id) ∧
  Stores .ldAtCA (fun s => 0xFF00 + s.regs.c.setWidth 16) (fun s => s.regs.a) id ∧
  Stores .ldAtHLIncA State.hl (fun s => s.regs.a) (fun t => t.setHl (t.hl + 1)) ∧
  Stores .ldAtHLDecA State.hl (fun s => s.regs.a) (fun t => t.setHl (t.hl - 1))

/-- LD (nn),SP (R221). That a raised error is answered by a next state which holds it is the model's reading of R401 (log
1).
Constructors that complete by it: ldAtNnSP. -/
def Obligations.StackPointerStore : Prop :=
  ∀ (nn : Word) (s : State),
    let lo : Byte := BitVec.ofNat 8 (s.regs.sp.toNat % 256)
    let hi : Byte := BitVec.ofNat 8 (s.regs.sp.toNat / 256)
    (s.MemoryWf → WriteOk s nn lo → WriteOk s (nn + 1) hi →
      ∃ u t, StoreEffect s nn lo u ∧ StoreEffect u (nn + 1) hi t ∧ exec (.ldAtNnSP nn) s = .next t) ∧
    (∀ f t, memWrite nn lo s = .error f t → exec (.ldAtNnSP nn) s = .next (t.withFault f)) ∧
    ∀ u f t, memWrite nn lo s = .ok () u → memWrite (nn + 1) hi u = .error f t →
      exec (.ldAtNnSP nn) s = .next (t.withFault f)

/-- PUSH and POP (R224 to R226) over the stack primitives of R98. That a raised error is answered by a next state which
holds it is the model's reading of R401 (log 1).
Constructors that complete by it: pushBC, pushDE, pushHL, pushAF, popBC, popDE, popHL, popAF. -/
def Obligations.PushAndPop : Prop :=
  (∀ p, Pushes (fun _ => True) (Row.push p) (fun s => s.rp2 p) id) ∧
  (∀ p, Pops (fun _ => True) (Row.pop p) 0 (fun v s => s.setRp2 p v))

/-- DIGGB's stack law (95_test_vectors.md S1): push then pop restores, but for the low nibble of F. -/
def Obligations.PushThenPopRestores : Prop :=
  ∀ (p q : Rp2) (s : State), s.Inv → s.fault = none →
    (∀ a ∈ [s.regs.sp - 1, s.regs.sp - 2], Within 0xC000 0xDFFF a ∨ Within 0xFF80 0xFFFE a) →
    ∃ t u, exec (Row.push p) s = .next t ∧ exec (Row.pop q) t = .next u ∧ t.fault = none ∧
    u.rp2 q = (if q = .af then s.rp2 p &&& 0xFFF0 else s.rp2 p) ∧ u.regs.sp = s.regs.sp ∧ u.fault = none ∧
    u.cyc = s.cyc + 20

/-- The 8-bit ALU (R231 to R238) with a register or an immediate source, as arithmetic on numbers.
Constructors that complete by it: addAB, addAC, addAD, addAE, addAH, addAL, addAA, addAn, adcAB, adcAC, adcAD, adcAE,
adcAH, adcAL, adcAA, adcAn, subB, subC, subD, subE, subH, subL, subA, subn, sbcAB, sbcAC, sbcAD, sbcAE, sbcAH, sbcAL,
sbcAA, sbcAn, andB, andC, andD, andE, andH, andL, andA, andn, xorB, xorC, xorD, xorE, xorH, xorL, xorA, xorn, orB,
orC, orD, orE, orH, orL, orA, orn, cpB, cpC, cpD, cpE, cpH, cpL, cpA, cpn. -/
def Obligations.AluOnRegistersAndImmediates : Prop :=
  ∀ (op : AluOp) (s : State),
    (∀ r, ∃ res g, AluResult op s.regs.a (s.reg r) s.flags.c res g ∧
      exec (Row.aluR op r) s = .next ((s.setReg .a res).setFlags g)) ∧
    ∀ n, ∃ res g, AluResult op s.regs.a n s.flags.c res g ∧
      exec (Row.aluN op n) s = .next ((s.setReg .a res).setFlags g)

/-- The 8-bit ALU with the byte at HL (R230 to R238). That a raised error is answered by a next state which holds it is
the model's reading of R401 (log 1).
Constructors that complete by it: addAAtHL, adcAAtHL, subAtHL, sbcAAtHL, andAtHL, xorAtHL, orAtHL, cpAtHL. -/
def Obligations.AluOnMemory : Prop :=
  ∀ (op : AluOp) (s : State),
    (∀ v, busRead s s.hl = .ok v → ∃ res g, AluResult op s.regs.a v s.flags.c res g ∧
      exec (Row.aluHl op) s = .next (((s.charge 4).setReg .a res).setFlags g)) ∧
    ∀ f, busRead s s.hl = .error f → exec (Row.aluHl op) s = .next ((s.charge 4).withFault f)

/-- INC and DEC of a byte (R239 to R242). That a raised error is answered by a next state which holds it is the model's
reading of R401 (log 1).
Constructors that complete by it: incB, incC, incD, incE, incH, incL, incA, decB, decC, decD, decE, decH, decL, decA,
incAtHL, decAtHL. -/
def Obligations.IncrementAndDecrement : Prop :=
  (∀ r s, ∃ v g, IncResult (s.reg r) s.flags v g ∧ exec (Row.incR r) s = .next ((s.setReg r v).setFlags g)) ∧
  (∀ r s, ∃ v g, DecResult (s.reg r) s.flags v g ∧ exec (Row.decR r) s = .next ((s.setReg r v).setFlags g)) ∧
  ∀ (s : State),
    (∀ v, busRead s s.hl = .ok v →
      (∃ w g, IncResult v s.flags w g ∧
        (s.MemoryWf → WriteOk s s.hl w →
          ∃ t, StoreEffect (s.charge 4) s.hl w t ∧ exec .incAtHL s = .next (t.setFlags g)) ∧
        ∀ f t, memWrite s.hl w (s.charge 4) = .error f t → exec .incAtHL s = .next (t.withFault f)) ∧
      ∃ w g, DecResult v s.flags w g ∧
        (s.MemoryWf → WriteOk s s.hl w →
          ∃ t, StoreEffect (s.charge 4) s.hl w t ∧ exec .decAtHL s = .next (t.setFlags g)) ∧
        ∀ f t, memWrite s.hl w (s.charge 4) = .error f t → exec .decAtHL s = .next (t.withFault f)) ∧
    ∀ f, busRead s s.hl = .error f →
      exec .incAtHL s = .next ((s.charge 4).withFault f) ∧ exec .decAtHL s = .next ((s.charge 4).withFault f)

/-- 16-bit arithmetic (R243 to R246).
Constructors that complete by it: incBC, incDE, incHL, incSP, decBC, decDE, decHL, decSP, addHLBC, addHLDE, addHLHL,
addHLSP, addSPe. -/
def Obligations.SixteenBitArithmetic : Prop :=
  (∀ p, Runs (Row.incRp p) (fun s => (s.charge 4).setRp p (BitVec.ofNat 16 ((s.rp p).toNat + 1)))) ∧
  (∀ p, Runs (Row.decRp p) (fun s => (s.charge 4).setRp p (BitVec.ofNat 16 ((s.rp p).toNat + 65535)))) ∧
  (∀ p s, ∃ g : Flags,
    exec (Row.addHl p) s =
      .next (((s.charge 4).setHl (BitVec.ofNat 16 (s.hl.toNat + (s.rp p).toNat))).setFlags g) ∧
    g.z = s.flags.z ∧ g.n = false ∧ (g.h = true ↔ s.hl.toNat % 4096 + (s.rp p).toNat % 4096 > 4095) ∧
    (g.c = true ↔ s.hl.toNat + (s.rp p).toNat > 65535)) ∧
  ∀ e s, ∃ g : Flags,
    exec (.addSPe e) s = .next (((s.charge 8).setSp (BitVec.ofInt 16 (s.regs.sp.toNat + e.toInt))).setFlags g) ∧
    g.z = false ∧ g.n = false ∧ (g.h = true ↔ s.regs.sp.toNat % 16 + e.toNat % 16 > 15) ∧
    (g.c = true ↔ s.regs.sp.toNat % 256 + e.toNat > 255)

/-- DAA, CPL, SCF, CCF (R247 to R250).
Constructors that complete by it: daa, cpl, scf, ccf. -/
def Obligations.DecimalAdjustAndFlagOps : Prop :=
  ∀ s : State,
    (∃ r g,
      let high := s.flags.c = true ∨ (s.flags.n = false ∧ s.regs.a.toNat > 0x99)
      let low := s.flags.h = true ∨ (s.flags.n = false ∧ s.regs.a.toNat % 16 > 9)
      (∃ x y : Nat, (high → x = 0x60) ∧ (¬high → x = 0) ∧ (low → y = 0x06) ∧ (¬low → y = 0) ∧
        r.toNat = if s.flags.n then (s.regs.a.toNat + 256 - x - y) % 256 else (s.regs.a.toNat + x + y) % 256) ∧
      (g.z = true ↔ r = 0) ∧ g.n = s.flags.n ∧ g.h = false ∧ (g.c = true ↔ high) ∧
      exec .daa s = .next ((s.setReg .a r).setFlags g)) ∧
    exec .cpl s = .next ((s.setReg .a (BitVec.ofNat 8 (255 - s.regs.a.toNat))).setFlags
      { z := s.flags.z, n := true, h := true, c := s.flags.c }) ∧
    exec .scf s = .next (s.setFlags { z := s.flags.z, n := false, h := false, c := true }) ∧
    exec .ccf s = .next (s.setFlags { z := s.flags.z, n := false, h := false, c := !s.flags.c })

/-- Decimal arithmetic: what DAA is for (R247), over all pairs of two-digit numbers. -/
def Obligations.DecimalArithmeticIsExact : Prop :=
  ∀ (s t u : State) (x y : Nat), x < 100 → y < 100 → s.regs.a = bcd x →
    (exec (.addAn (bcd y)) s = .next t → exec .daa t = .next u →
      u.regs.a = bcd ((x + y) % 100) ∧ (u.flags.c = true ↔ 99 < x + y)) ∧
    (exec (.subn (bcd y)) s = .next t → exec .daa t = .next u →
      u.regs.a = bcd ((x + 100 - y) % 100) ∧ (u.flags.c = true ↔ x < y))

/-- The accumulator rotates (R251 to R254).
Constructors that complete by it: rlca, rrca, rla, rra. -/
def Obligations.AccumulatorRotates : Prop :=
  ∀ s : State,
    let a := s.regs.a.toNat
    let done (i : Instr) (r : Nat) (k : Bool) : Prop := exec i s =
      .next ((s.setReg .a (BitVec.ofNat 8 r)).setFlags { z := false, n := false, h := false, c := k })
    done .rlca (a * 2 % 256 + a / 128) (decide (128 ≤ a)) ∧
    done .rrca (a / 2 + 128 * (a % 2)) (decide (a % 2 = 1)) ∧
    done .rla (a * 2 % 256 + s.flags.c.toNat) (decide (128 ≤ a)) ∧
    done .rra (a / 2 + 128 * s.flags.c.toNat) (decide (a % 2 = 1))

/-- The jumps (R271 to R275) under the conditions of R270.
Constructors that complete by it: jpnn, jpNZnn, jpZnn, jpNCnn, jpCnn, jpHL, jre, jrNZe, jrZe, jrNCe, jrCe. -/
def Obligations.Jumps : Prop :=
  ∀ s : State,
    let rel (e : Byte) : State := (s.charge 4).setPc (BitVec.ofInt 16 (s.regs.pc.toNat + e.toInt))
    (∀ nn, exec (.jpnn nn) s = .next ((s.charge 4).setPc nn)) ∧
    (∀ cc nn, exec (Row.jpCc cc nn) s = .next (if condHolds cc s.regs.f then (s.charge 4).setPc nn else s)) ∧
    exec .jpHL s = .next (s.setPc s.hl) ∧
    (∀ e, exec (.jre e) s = .next (rel e)) ∧
    ∀ cc e, exec (Row.jrCc cc e) s = .next (if condHolds cc s.regs.f then rel e else s)

/-- CALL (R276, R277) and RST (R281). That a raised error is answered by a next state which holds it is the model's
reading of R401 (log 1).
Constructors that complete by it: callnn, callNZnn, callZnn, callNCnn, callCnn, rst00, rst08, rst10, rst18, rst20,
rst28, rst30, rst38. -/
def Obligations.CallsAndRestarts : Prop :=
  (∀ nn, Pushes (fun _ => True) (.callnn nn) (fun s => s.regs.pc) (fun t => t.setPc nn)) ∧
  (∀ cc nn, Pushes (fun s => condHolds cc s.regs.f = true) (Row.callCc cc nn) (fun s => s.regs.pc)
    (fun t => t.setPc nn)) ∧
  (∀ cc nn s, condHolds cc s.regs.f = false → exec (Row.callCc cc nn) s = .next s) ∧
  ∀ y : BitVec 3, Pushes (fun _ => True) (Row.rst y) (fun s => s.regs.pc)
    (fun t => t.setPc (BitVec.ofNat 16 (8 * y.toNat)))

/-- The returns (R278 to R280); RETI is the return from an interrupt (R414). That a raised error is answered by a next
state which holds it is the model's reading of R401 (log 1).
Constructors that complete by it: ret, retNZ, retZ, retNC, retC, reti. -/
def Obligations.Returns : Prop :=
  Pops (fun _ => True) .ret 0 (fun v s => (s.charge 4).setPc v) ∧
  (∀ cc, Pops (fun s => condHolds cc s.regs.f = true) (Row.retCc cc) 4 (fun v s => (s.charge 4).setPc v)) ∧
  (∀ cc s, condHolds cc s.regs.f = false → exec (Row.retCc cc) s = .next (s.charge 4)) ∧
  Pops (fun _ => True) .reti 0 (fun v s => ((s.charge 4).setPc v).setIme true)

/-- The 0xCB table on registers (R291 to R301).
Constructors that complete by it: rlcB, rlcC, rlcD, rlcE, rlcH, rlcL, rlcA, rrcB, rrcC, rrcD, rrcE, rrcH, rrcL, rrcA,
rlB, rlC, rlD, rlE, rlH, rlL, rlA, rrB, rrC, rrD, rrE, rrH, rrL, rrA, slaB, slaC, slaD, slaE, slaH, slaL, slaA, sraB,
sraC, sraD, sraE, sraH, sraL, sraA, swapB, swapC, swapD, swapE, swapH, swapL, swapA, srlB, srlC, srlD, srlE, srlH,
srlL, srlA, bit0B, bit0C, bit0D, bit0E, bit0H, bit0L, bit0A, bit1B, bit1C, bit1D, bit1E, bit1H, bit1L, bit1A, bit2B,
bit2C, bit2D, bit2E, bit2H, bit2L, bit2A, bit3B, bit3C, bit3D, bit3E, bit3H, bit3L, bit3A, bit4B, bit4C, bit4D, bit4E,
bit4H, bit4L, bit4A, bit5B, bit5C, bit5D, bit5E, bit5H, bit5L, bit5A, bit6B, bit6C, bit6D, bit6E, bit6H, bit6L, bit6A,
bit7B, bit7C, bit7D, bit7E, bit7H, bit7L, bit7A, res0B, res0C, res0D, res0E, res0H, res0L, res0A, res1B, res1C, res1D,
res1E, res1H, res1L, res1A, res2B, res2C, res2D, res2E, res2H, res2L, res2A, res3B, res3C, res3D, res3E, res3H, res3L,
res3A, res4B, res4C, res4D, res4E, res4H, res4L, res4A, res5B, res5C, res5D, res5E, res5H, res5L, res5A, res6B, res6C,
res6D, res6E, res6H, res6L, res6A, res7B, res7C, res7D, res7E, res7H, res7L, res7A, set0B, set0C, set0D, set0E, set0H,
set0L, set0A, set1B, set1C, set1D, set1E, set1H, set1L, set1A, set2B, set2C, set2D, set2E, set2H, set2L, set2A, set3B,
set3C, set3D, set3E, set3H, set3L, set3A, set4B, set4C, set4D, set4E, set4H, set4L, set4A, set5B, set5C, set5D, set5E,
set5H, set5L, set5A, set6B, set6C, set6D, set6E, set6H, set6L, set6A, set7B, set7C, set7D, set7E, set7H, set7L, set7A. -/
def Obligations.CbOnRegisters : Prop :=
  ∀ (s : State) (r : R8),
    (∀ op, ∃ v k g, RotResult op (s.reg r) s.flags.c v k ∧ RotFlags v k g ∧
      exec (Row.rotR op r) s = .next ((s.setReg r v).setFlags g)) ∧
    ∀ b : BitVec 3,
      (∃ g, BitFlags (s.reg r) b s.flags g ∧ exec (Row.bitR b r) s = .next (s.setFlags g)) ∧
      (∃ v, BitSet (s.reg r) b false v ∧ exec (Row.resR b r) s = .next (s.setReg r v)) ∧
      ∃ v, BitSet (s.reg r) b true v ∧ exec (Row.setR b r) s = .next (s.setReg r v)

/-- The 0xCB table on the byte at HL (R290 to R301). That a raised error is answered by a next state which holds it is the
model's reading of R401 (log 1).
Constructors that complete by it: rlcAtHL, rrcAtHL, rlAtHL, rrAtHL, slaAtHL, sraAtHL, swapAtHL, srlAtHL, bit0AtHL,
bit1AtHL, bit2AtHL, bit3AtHL, bit4AtHL, bit5AtHL, bit6AtHL, bit7AtHL, res0AtHL, res1AtHL, res2AtHL, res3AtHL,
res4AtHL, res5AtHL, res6AtHL, res7AtHL, set0AtHL, set1AtHL, set2AtHL, set3AtHL, set4AtHL, set5AtHL, set6AtHL,
set7AtHL. -/
def Obligations.CbOnMemory : Prop :=
  ∀ (s : State),
    (∀ f, busRead s s.hl = .error f →
      (∀ op, exec (Row.rotHl op) s = .next ((s.charge 4).withFault f)) ∧
      ∀ b, exec (Row.bitHl b) s = .next ((s.charge 4).withFault f) ∧
        exec (Row.resHl b) s = .next ((s.charge 4).withFault f) ∧
        exec (Row.setHl b) s = .next ((s.charge 4).withFault f)) ∧
    ∀ v, busRead s s.hl = .ok v →
      (∀ op, ∃ w k g, RotResult op v s.flags.c w k ∧ RotFlags w k g ∧
        (s.MemoryWf → WriteOk s s.hl w →
          ∃ t, StoreEffect (s.charge 4) s.hl w t ∧ exec (Row.rotHl op) s = .next (t.setFlags g)) ∧
        ∀ f t, memWrite s.hl w (s.charge 4) = .error f t → exec (Row.rotHl op) s = .next (t.withFault f)) ∧
      ∀ b : BitVec 3,
        (∃ g, BitFlags v b s.flags g ∧ exec (Row.bitHl b) s = .next ((s.charge 4).setFlags g)) ∧
        ∀ x, ∃ w, BitSet v b x w ∧
          (s.MemoryWf → WriteOk s s.hl w → ∃ t, StoreEffect (s.charge 4) s.hl w t ∧
            exec (if x then Row.setHl b else Row.resHl b) s = .next t) ∧
          ∀ f t, memWrite s.hl w (s.charge 4) = .error f t →
            exec (if x then Row.setHl b else Row.resHl b) s = .next (t.withFault f)

/-- The prefix row (R290): it agrees with the 256 rows it selects. That a raised error is answered by a next state which
holds it is the model's reading of R401 (log 1).
Constructors that complete by it: cbPrefix. -/
def Obligations.CbPrefixRunsTheRowItSelects : Prop :=
  ∀ s : State,
    (∀ f, busRead s s.regs.pc = .error f → exec .cbPrefix s = .next ((s.charge 4).withFault f)) ∧
    ∀ op2, busRead s s.regs.pc = .ok op2 →
      (op2 ∈ s.extra.subs → exec .cbPrefix s = .next
        (((s.charge 4).setPc (s.regs.pc + 1)).withFault (.decodeError (s.regs.pc - 1) op2))) ∧
      (op2 ∉ s.extra.subs → ∃ i t, decode [0xCB, op2] = .instr i [] ∧ exec .cbPrefix s = .next t ∧
        exec i ((s.charge 4).setPc (s.regs.pc + 1)) = .next t)

/-- The system instructions (R310 to R314) and the unused bytes (R130, R315), whose effect is the fatal error. That a
raised error is answered by a next state which holds it is the model's reading of R401 (log 1).
Constructors that complete by it: nop, halt, stop, di, ei, unusedD3, unusedDB, unusedDD, unusedE3, unusedE4, unusedEB,
unusedEC, unusedED, unusedF4, unusedFC, unusedFD. -/
def Obligations.SystemInstructionsAndUnusedBytes : Prop :=
  Runs .nop id ∧ Runs (.stop 0x00) id ∧
  Runs .halt (fun s => if s.ime then { s with halted := true } else s) ∧
  Runs .di (fun s => { s with ime := false }) ∧ Runs .ei (fun s => { s with ime := true }) ∧
  (∀ u, u ≠ 0x00 → Runs (.stop u) (fun s => { s with fault := some (.decodeError (s.regs.pc - 2) u) })) ∧
  ∀ (i : Instr) (b : Byte),
    (i, b) ∈ [(Instr.unusedD3, 0xD3#8), (.unusedDB, 0xDB#8), (.unusedDD, 0xDD#8), (.unusedE3, 0xE3#8),
      (.unusedE4, 0xE4#8), (.unusedEB, 0xEB#8), (.unusedEC, 0xEC#8), (.unusedED, 0xED#8), (.unusedF4, 0xF4#8),
      (.unusedFC, 0xFC#8), (.unusedFD, 0xFD#8)] →
    encode i = [b] ∧ Runs i (fun s => { s with fault := some (.decodeError (s.regs.pc - 1) b) })

/-- Runs of many steps (Safety.lean), from any state of the invariant. -/
def Obligations.SafeRunsKeepTheInvariant : Prop :=
  ∀ (k : Nat) (s : State), s.Inv →
    (∀ t, Host.Core.run Sys2Proof.core k s = .next t → State.Inv t) ∧
    (SafeRun k s → ∀ j, j ≤ k → SafeRun j s)
end

