-- ==== Sys2Proof/Laws/Memory.lean ====
section
/-! SUPPORT. The laws of keyed stores: read after write, the canonical form is kept, and two canonical stores that read
alike are equal. -/

namespace Sys2Proof.Machine

variable {α : Type} [DecidableEq α] {d : α}

theorem Sparse.get_put_self (m : Sparse α) (h : m.Pairwise (fun x y => x.1 < y.1)) (a : Nat) (v : α) :
    Sparse.get d (Sparse.put d m a v) a = v := by
  induction m with
  | nil => by_cases hv : v = d <;> simp [Sparse.put, Sparse.get, hv]
  | cons c r ih =>
    obtain ⟨k, w⟩ := c
    have hr := List.pairwise_cons.1 h
    have absent : ∀ (r : Sparse α), (∀ c ∈ r, a < c.1) → Sparse.get d r a = d := by
      intro r hlt
      induction r with
      | nil => rfl
      | cons e t iht =>
        have he := hlt e (by simp)
        simp only [Sparse.get]
        rw [if_neg (by omega)]
        exact iht (fun x hx => hlt x (by simp [hx]))
    simp only [Sparse.put]
    by_cases h1 : a < k
    · by_cases hv : v = d
      · simp only [h1, hv, if_true]
        refine absent _ ?_
        intro c hc
        rcases List.mem_cons.1 hc with rfl | hc
        · exact h1
        · exact Nat.lt_trans h1 (hr.1 c hc)
      · simp [h1, hv, Sparse.get]
    · by_cases h2 : a = k
      · subst h2
        by_cases hv : v = d
        · simp only [hv, if_true, Nat.lt_irrefl, if_false]
          exact absent _ (fun c hc => hr.1 c hc)
        · simp [hv, Sparse.get]
      · simp only [h1, h2, if_false, Sparse.get]
        rw [if_neg (by omega)]
        exact ih hr.2

theorem Sparse.get_put_other (m : Sparse α) {a b : Nat} (hab : b ≠ a) (v : α) :
    Sparse.get d (Sparse.put d m a v) b = Sparse.get d m b := by
  induction m with
  | nil => by_cases hv : v = d <;> simp [Sparse.put, Sparse.get, hv, Ne.symm hab]
  | cons c r ih =>
    obtain ⟨k, w⟩ := c
    simp only [Sparse.put]
    by_cases h1 : a < k
    · by_cases hv : v = d <;> simp [h1, hv, Sparse.get, Ne.symm hab]
    · by_cases h2 : a = k
      · subst h2
        by_cases hv : v = d <;> simp [hv, Sparse.get, Ne.symm hab]
      · simp [h1, h2, Sparse.get, ih]

theorem Sparse.mem_put {m : Sparse α} {a : Nat} {v : α} {c : Nat × α} (h : c ∈ Sparse.put d m a v) :
    (c = (a, v) ∧ v ≠ d) ∨ c ∈ m := by
  induction m with
  | nil =>
    by_cases hv : v = d
    · simp [Sparse.put, hv] at h
    · simp [Sparse.put, hv] at h; exact .inl ⟨h, hv⟩
  | cons e r ih =>
    obtain ⟨k, w⟩ := e
    simp only [Sparse.put] at h
    split at h
    · split at h
      · exact .inr h
      · rename_i hv
        rcases List.mem_cons.1 h with h | h
        · exact .inl ⟨h, hv⟩
        · exact .inr h
    · split at h
      · split at h
        · exact .inr (List.mem_cons_of_mem _ h)
        · rename_i hk hv
          rcases List.mem_cons.1 h with h | h
          · exact .inl ⟨by rw [h, hk], hv⟩
          · exact .inr (List.mem_cons_of_mem _ h)
      · rcases List.mem_cons.1 h with h | h
        · exact .inr (by rw [h]; simp)
        · rcases ih h with h | h
          · exact .inl h
          · exact .inr (List.mem_cons_of_mem _ h)

theorem Sparse.put_rising (m : Sparse α) (h : m.Pairwise (fun x y => x.1 < y.1)) (a : Nat) (v : α) :
    (Sparse.put d m a v).Pairwise (fun x y => x.1 < y.1) := by
  induction m with
  | nil => by_cases hv : v = d <;> simp [Sparse.put, hv]
  | cons e r ih =>
    obtain ⟨k, w⟩ := e
    have hr := List.pairwise_cons.1 h
    simp only [Sparse.put]
    split
    · rename_i h1
      split
      · exact h
      · refine List.pairwise_cons.2 ⟨?_, h⟩
        intro c hc
        rcases List.mem_cons.1 hc with rfl | hc
        · exact h1
        · exact Nat.lt_trans h1 (hr.1 c hc)
    · rename_i h1
      split
      · split
        · exact hr.2
        · exact List.pairwise_cons.2 ⟨hr.1, hr.2⟩
      · rename_i h2
        refine List.pairwise_cons.2 ⟨?_, ih hr.2⟩
        intro c hc
        rcases Sparse.mem_put hc with ⟨rfl, -⟩ | hc
        · show k < a; omega
        · exact hr.1 c hc

/-- A write inside the store keeps its canonical form. -/
theorem Sparse.put_wf {m : Sparse α} {n : Nat} (h : Sparse.wf d n m) {a : Nat} (ha : a < n) (v : α) :
    Sparse.wf d n (Sparse.put d m a v) := by
  refine ⟨Sparse.put_rising m h.1 a v, ?_⟩
  intro c hc
  rcases Sparse.mem_put hc with ⟨rfl, hv⟩ | hc
  · exact ⟨ha, hv⟩
  · exact h.2 c hc

theorem Sparse.putRange_wf {m : Sparse α} {n : Nat} (h : Sparse.wf d n m) (base : Nat) (vs : List α)
    (hb : base + vs.length ≤ n) : Sparse.wf d n (Sparse.putRange d m base vs) := by
  induction vs generalizing m base with
  | nil => exact h
  | cons v vs ih =>
    simp only [List.length_cons] at hb
    exact ih (Sparse.put_wf h (by omega) v) (base + 1) (by omega)

theorem Sparse.mem_putRange {m : Sparse α} {base : Nat} {vs : List α} {c : Nat × α}
    (h : c ∈ Sparse.putRange d m base vs) : c.2 ∈ vs ∨ c ∈ m := by
  induction vs generalizing m base with
  | nil => exact .inr h
  | cons v vs ih =>
    rcases ih h with h | h
    · exact .inl (List.mem_cons_of_mem _ h)
    · rcases Sparse.mem_put h with ⟨rfl, -⟩ | h
      · exact .inl (by simp)
      · exact .inr h

theorem Sparse.get_putRange_outside (m : Sparse α) (base : Nat) (vs : List α) {b : Nat}
    (hb : b < base ∨ base + vs.length ≤ b) : Sparse.get d (Sparse.putRange d m base vs) b = Sparse.get d m b := by
  induction vs generalizing m base with
  | nil => rfl
  | cons v vs ih =>
    simp only [List.length_cons] at hb
    rw [Sparse.putRange, ih _ (base + 1) (by omega), Sparse.get_put_other _ (by omega)]

theorem Sparse.get_putRange_inside (m : Sparse α) (h : m.Pairwise (fun x y => x.1 < y.1)) (base : Nat) (vs : List α)
    {i : Nat} (hi : i < vs.length) : Sparse.get d (Sparse.putRange d m base vs) (base + i) = vs[i] := by
  induction vs generalizing m base i with
  | nil => exact absurd hi (by simp)
  | cons v vs ih =>
    cases i with
    | zero =>
      rw [Sparse.putRange, Sparse.get_putRange_outside _ _ _ (by omega)]
      exact Sparse.get_put_self m h base v
    | succ j =>
      have hj : j < vs.length := by simpa using hi
      have := ih (Sparse.put d m base v) (Sparse.put_rising m h base v) (base + 1) hj
      rw [Sparse.putRange, show base + (j + 1) = base + 1 + j by omega, this]
      rfl

omit [DecidableEq α] in
/-- A key of a canonical store that is listed reads as its entry; an unlisted one reads as the default. -/
theorem Sparse.get_eq_of_mem {m : Sparse α} (h : m.Pairwise (fun x y => x.1 < y.1)) {c : Nat × α} (hc : c ∈ m) :
    Sparse.get d m c.1 = c.2 := by
  induction m with
  | nil => exact absurd hc (by simp)
  | cons e r ih =>
    obtain ⟨k, w⟩ := e
    have hr := List.pairwise_cons.1 h
    rcases List.mem_cons.1 hc with rfl | hc
    · simp [Sparse.get]
    · have hlt : k < c.1 := hr.1 c hc
      simp only [Sparse.get]
      rw [if_neg (by omega)]
      exact ih hr.2 hc

omit [DecidableEq α] in
theorem Sparse.get_of_rising_head {k : Nat} {w : α} {r : Sparse α} (h : ((k, w) :: r).Pairwise (fun x y => x.1 < y.1))
    {a : Nat} (ha : a < k) : Sparse.get d ((k, w) :: r) a = d := by
  have hr := List.pairwise_cons.1 h
  have : ∀ t : Sparse α, (∀ c ∈ t, a < c.1) → Sparse.get d t a = d := by
    intro t ht
    induction t with
    | nil => rfl
    | cons e t ih =>
      have he := ht e (by simp)
      simp only [Sparse.get]
      rw [if_neg (by omega)]
      exact ih (fun x hx => ht x (by simp [hx]))
  apply this
  intro c hc
  rcases List.mem_cons.1 hc with rfl | hc
  · exact ha
  · exact Nat.lt_trans ha (hr.1 c hc)

/-- Two canonical stores that read alike at every key are the same data. -/
theorem Sparse.ext_of_wf {n : Nat} {m m' : Sparse α} (h : Sparse.wf d n m) (h' : Sparse.wf d n m')
    (hread : ∀ a, Sparse.get d m a = Sparse.get d m' a) : m = m' := by
  induction m generalizing m' with
  | nil =>
    cases m' with
    | nil => rfl
    | cons e r =>
      have := hread e.1
      rw [Sparse.get_eq_of_mem h'.1 (List.mem_cons_self)] at this
      exact absurd this.symm (h'.2 e (by simp)).2
  | cons e r ih =>
    obtain ⟨k, w⟩ := e
    cases m' with
    | nil =>
      have := hread k
      rw [Sparse.get_eq_of_mem h.1 (c := (k, w)) (by simp)] at this
      exact absurd this (h.2 (k, w) (by simp)).2
    | cons e' r' =>
      obtain ⟨k', w'⟩ := e'
      have hw := (h.2 (k, w) (by simp)).2
      have hw' := (h'.2 (k', w') (by simp)).2
      have hk : k = k' := by
        rcases Nat.lt_trichotomy k k' with hlt | heq | hgt
        · have := hread k
          rw [Sparse.get_eq_of_mem h.1 (c := (k, w)) (by simp), Sparse.get_of_rising_head h'.1 hlt] at this
          exact absurd this hw
        · exact heq
        · have := hread k'
          rw [Sparse.get_eq_of_mem h'.1 (c := (k', w')) (by simp), Sparse.get_of_rising_head h.1 hgt] at this
          exact absurd this.symm hw'
      subst hk
      have hv : w = w' := by
        have := hread k
        rwa [Sparse.get_eq_of_mem h.1 (c := (k, w)) (by simp),
          Sparse.get_eq_of_mem h'.1 (c := (k, w')) (by simp)] at this
      subst hv
      have hr := List.pairwise_cons.1 h.1
      have hr' := List.pairwise_cons.1 h'.1
      refine congrArg _ (ih ⟨hr.2, fun c hc => h.2 c (by simp [hc])⟩ ⟨hr'.2, fun c hc => h'.2 c (by simp [hc])⟩ ?_)
      have absent : ∀ t : Sparse α, (∀ c ∈ t, k < c.1) → Sparse.get d t k = d := by
        intro t ht
        induction t with
        | nil => rfl
        | cons e t ih =>
          have he := ht e (by simp)
          simp only [Sparse.get]
          rw [if_neg (by omega)]
          exact ih (fun x hx => ht x (by simp [hx]))
      intro a
      by_cases ha : k = a
      · subst ha
        rw [absent r hr.1, absent r' hr'.1]
      · have := hread a
        simpa [Sparse.get, ha] using this

/-! The same for memories. -/

theorem Memory.read_write_self {n : Nat} {m : Memory} (h : m.wf n) (a : Nat) (v : Byte) : (m.write a v).read a = v :=
  Sparse.get_put_self m h.1 a v

theorem Memory.read_write_other (m : Memory) {a b : Nat} (h : b ≠ a) (v : Byte) : (m.write a v).read b = m.read b :=
  Sparse.get_put_other m h v

theorem Memory.write_wf {n : Nat} {m : Memory} (h : m.wf n) {a : Nat} (ha : a < n) (v : Byte) : (m.write a v).wf n :=
  Sparse.put_wf h ha v

@[simp] theorem Memory.read_nil (a : Nat) : Memory.read [] a = 0x00 := rfl

theorem Memory.wf_nil (n : Nat) : Memory.wf n [] := ⟨List.Pairwise.nil, by simp⟩

theorem Memory.ofCells_wf (n : Nat) (cells : List Host.Cell) : Memory.wf n (Memory.ofCells n cells) := by
  unfold Memory.ofCells
  generalize hm : ([] : Memory) = m
  have h : Memory.wf n m := hm ▸ Memory.wf_nil n
  clear hm
  induction cells generalizing m with
  | nil => exact h
  | cons c cs ih =>
    rw [List.foldl_cons]
    apply ih
    split
    · rename_i hc; exact Memory.write_wf h hc c.2
    · exact h

end Sys2Proof.Machine
end

