-- ==== Sys2Proof/Laws/State.lean ====
section
/-! SUPPORT. One lemma per field per update of the state: what each named update leaves and what it writes. Later proofs
rewrite with these and unfold no record update. -/

namespace Sys2Proof.Machine

variable (s : State)

/-! `State.setReg`. -/

@[simp] theorem State.setReg_ime (r : R8) (v : Byte) : (s.setReg r v).ime = s.ime := by cases r <;> rfl
@[simp] theorem State.setReg_halted (r : R8) (v : Byte) : (s.setReg r v).halted = s.halted := by cases r <;> rfl
@[simp] theorem State.setReg_cyc (r : R8) (v : Byte) : (s.setReg r v).cyc = s.cyc := by cases r <;> rfl
@[simp] theorem State.setReg_fault (r : R8) (v : Byte) : (s.setReg r v).fault = s.fault := by cases r <;> rfl
@[simp] theorem State.setReg_ie (r : R8) (v : Byte) : (s.setReg r v).ie = s.ie := by cases r <;> rfl
@[simp] theorem State.setReg_ifr (r : R8) (v : Byte) : (s.setReg r v).ifr = s.ifr := by cases r <;> rfl
@[simp] theorem State.setReg_timer (r : R8) (v : Byte) : (s.setReg r v).timer = s.timer := by cases r <;> rfl
@[simp] theorem State.setReg_ppu (r : R8) (v : Byte) : (s.setReg r v).ppu = s.ppu := by cases r <;> rfl
@[simp] theorem State.setReg_joy (r : R8) (v : Byte) : (s.setReg r v).joy = s.joy := by cases r <;> rfl
@[simp] theorem State.setReg_cart (r : R8) (v : Byte) : (s.setReg r v).cart = s.cart := by cases r <;> rfl
@[simp] theorem State.setReg_wram (r : R8) (v : Byte) : (s.setReg r v).wram = s.wram := by cases r <;> rfl
@[simp] theorem State.setReg_hram (r : R8) (v : Byte) : (s.setReg r v).hram = s.hram := by cases r <;> rfl
@[simp] theorem State.setReg_serout (r : R8) (v : Byte) : (s.setReg r v).serout = s.serout := by cases r <;> rfl
@[simp] theorem State.setReg_extra (r : R8) (v : Byte) : (s.setReg r v).extra = s.extra := by cases r <;> rfl
@[simp] theorem State.setReg_regs_f (r : R8) (v : Byte) : (s.setReg r v).regs.f = s.regs.f := by cases r <;> rfl
@[simp] theorem State.setReg_regs_sp (r : R8) (v : Byte) : (s.setReg r v).regs.sp = s.regs.sp := by cases r <;> rfl
@[simp] theorem State.setReg_regs_pc (r : R8) (v : Byte) : (s.setReg r v).regs.pc = s.regs.pc := by cases r <;> rfl

/-! `State.setF`. -/

@[simp] theorem State.setF_ime (v : Byte) : (s.setF v).ime = s.ime := rfl
@[simp] theorem State.setF_halted (v : Byte) : (s.setF v).halted = s.halted := rfl
@[simp] theorem State.setF_cyc (v : Byte) : (s.setF v).cyc = s.cyc := rfl
@[simp] theorem State.setF_fault (v : Byte) : (s.setF v).fault = s.fault := rfl
@[simp] theorem State.setF_ie (v : Byte) : (s.setF v).ie = s.ie := rfl
@[simp] theorem State.setF_ifr (v : Byte) : (s.setF v).ifr = s.ifr := rfl
@[simp] theorem State.setF_timer (v : Byte) : (s.setF v).timer = s.timer := rfl
@[simp] theorem State.setF_ppu (v : Byte) : (s.setF v).ppu = s.ppu := rfl
@[simp] theorem State.setF_joy (v : Byte) : (s.setF v).joy = s.joy := rfl
@[simp] theorem State.setF_cart (v : Byte) : (s.setF v).cart = s.cart := rfl
@[simp] theorem State.setF_wram (v : Byte) : (s.setF v).wram = s.wram := rfl
@[simp] theorem State.setF_hram (v : Byte) : (s.setF v).hram = s.hram := rfl
@[simp] theorem State.setF_serout (v : Byte) : (s.setF v).serout = s.serout := rfl
@[simp] theorem State.setF_extra (v : Byte) : (s.setF v).extra = s.extra := rfl
@[simp] theorem State.setF_regs_a (v : Byte) : (s.setF v).regs.a = s.regs.a := rfl
@[simp] theorem State.setF_regs_f (v : Byte) : (s.setF v).regs.f = v &&& 0xF0 := rfl
@[simp] theorem State.setF_regs_b (v : Byte) : (s.setF v).regs.b = s.regs.b := rfl
@[simp] theorem State.setF_regs_c (v : Byte) : (s.setF v).regs.c = s.regs.c := rfl
@[simp] theorem State.setF_regs_d (v : Byte) : (s.setF v).regs.d = s.regs.d := rfl
@[simp] theorem State.setF_regs_e (v : Byte) : (s.setF v).regs.e = s.regs.e := rfl
@[simp] theorem State.setF_regs_h (v : Byte) : (s.setF v).regs.h = s.regs.h := rfl
@[simp] theorem State.setF_regs_l (v : Byte) : (s.setF v).regs.l = s.regs.l := rfl
@[simp] theorem State.setF_regs_sp (v : Byte) : (s.setF v).regs.sp = s.regs.sp := rfl
@[simp] theorem State.setF_regs_pc (v : Byte) : (s.setF v).regs.pc = s.regs.pc := rfl

/-! `State.setFlags`. -/

@[simp] theorem State.setFlags_ime (g : Flags) : (s.setFlags g).ime = s.ime := rfl
@[simp] theorem State.setFlags_halted (g : Flags) : (s.setFlags g).halted = s.halted := rfl
@[simp] theorem State.setFlags_cyc (g : Flags) : (s.setFlags g).cyc = s.cyc := rfl
@[simp] theorem State.setFlags_fault (g : Flags) : (s.setFlags g).fault = s.fault := rfl
@[simp] theorem State.setFlags_ie (g : Flags) : (s.setFlags g).ie = s.ie := rfl
@[simp] theorem State.setFlags_ifr (g : Flags) : (s.setFlags g).ifr = s.ifr := rfl
@[simp] theorem State.setFlags_timer (g : Flags) : (s.setFlags g).timer = s.timer := rfl
@[simp] theorem State.setFlags_ppu (g : Flags) : (s.setFlags g).ppu = s.ppu := rfl
@[simp] theorem State.setFlags_joy (g : Flags) : (s.setFlags g).joy = s.joy := rfl
@[simp] theorem State.setFlags_cart (g : Flags) : (s.setFlags g).cart = s.cart := rfl
@[simp] theorem State.setFlags_wram (g : Flags) : (s.setFlags g).wram = s.wram := rfl
@[simp] theorem State.setFlags_hram (g : Flags) : (s.setFlags g).hram = s.hram := rfl
@[simp] theorem State.setFlags_serout (g : Flags) : (s.setFlags g).serout = s.serout := rfl
@[simp] theorem State.setFlags_extra (g : Flags) : (s.setFlags g).extra = s.extra := rfl
@[simp] theorem State.setFlags_regs_a (g : Flags) : (s.setFlags g).regs.a = s.regs.a := rfl
@[simp] theorem State.setFlags_regs_f (g : Flags) : (s.setFlags g).regs.f = g.toByte &&& 0xF0 := rfl
@[simp] theorem State.setFlags_regs_b (g : Flags) : (s.setFlags g).regs.b = s.regs.b := rfl
@[simp] theorem State.setFlags_regs_c (g : Flags) : (s.setFlags g).regs.c = s.regs.c := rfl
@[simp] theorem State.setFlags_regs_d (g : Flags) : (s.setFlags g).regs.d = s.regs.d := rfl
@[simp] theorem State.setFlags_regs_e (g : Flags) : (s.setFlags g).regs.e = s.regs.e := rfl
@[simp] theorem State.setFlags_regs_h (g : Flags) : (s.setFlags g).regs.h = s.regs.h := rfl
@[simp] theorem State.setFlags_regs_l (g : Flags) : (s.setFlags g).regs.l = s.regs.l := rfl
@[simp] theorem State.setFlags_regs_sp (g : Flags) : (s.setFlags g).regs.sp = s.regs.sp := rfl
@[simp] theorem State.setFlags_regs_pc (g : Flags) : (s.setFlags g).regs.pc = s.regs.pc := rfl

/-! `State.setSp`. -/

@[simp] theorem State.setSp_ime (v : Word) : (s.setSp v).ime = s.ime := rfl
@[simp] theorem State.setSp_halted (v : Word) : (s.setSp v).halted = s.halted := rfl
@[simp] theorem State.setSp_cyc (v : Word) : (s.setSp v).cyc = s.cyc := rfl
@[simp] theorem State.setSp_fault (v : Word) : (s.setSp v).fault = s.fault := rfl
@[simp] theorem State.setSp_ie (v : Word) : (s.setSp v).ie = s.ie := rfl
@[simp] theorem State.setSp_ifr (v : Word) : (s.setSp v).ifr = s.ifr := rfl
@[simp] theorem State.setSp_timer (v : Word) : (s.setSp v).timer = s.timer := rfl
@[simp] theorem State.setSp_ppu (v : Word) : (s.setSp v).ppu = s.ppu := rfl
@[simp] theorem State.setSp_joy (v : Word) : (s.setSp v).joy = s.joy := rfl
@[simp] theorem State.setSp_cart (v : Word) : (s.setSp v).cart = s.cart := rfl
@[simp] theorem State.setSp_wram (v : Word) : (s.setSp v).wram = s.wram := rfl
@[simp] theorem State.setSp_hram (v : Word) : (s.setSp v).hram = s.hram := rfl
@[simp] theorem State.setSp_serout (v : Word) : (s.setSp v).serout = s.serout := rfl
@[simp] theorem State.setSp_extra (v : Word) : (s.setSp v).extra = s.extra := rfl
@[simp] theorem State.setSp_regs_a (v : Word) : (s.setSp v).regs.a = s.regs.a := rfl
@[simp] theorem State.setSp_regs_f (v : Word) : (s.setSp v).regs.f = s.regs.f := rfl
@[simp] theorem State.setSp_regs_b (v : Word) : (s.setSp v).regs.b = s.regs.b := rfl
@[simp] theorem State.setSp_regs_c (v : Word) : (s.setSp v).regs.c = s.regs.c := rfl
@[simp] theorem State.setSp_regs_d (v : Word) : (s.setSp v).regs.d = s.regs.d := rfl
@[simp] theorem State.setSp_regs_e (v : Word) : (s.setSp v).regs.e = s.regs.e := rfl
@[simp] theorem State.setSp_regs_h (v : Word) : (s.setSp v).regs.h = s.regs.h := rfl
@[simp] theorem State.setSp_regs_l (v : Word) : (s.setSp v).regs.l = s.regs.l := rfl
@[simp] theorem State.setSp_regs_sp (v : Word) : (s.setSp v).regs.sp = v := rfl
@[simp] theorem State.setSp_regs_pc (v : Word) : (s.setSp v).regs.pc = s.regs.pc := rfl

/-! `State.setPc`. -/

@[simp] theorem State.setPc_ime (v : Word) : (s.setPc v).ime = s.ime := rfl
@[simp] theorem State.setPc_halted (v : Word) : (s.setPc v).halted = s.halted := rfl
@[simp] theorem State.setPc_cyc (v : Word) : (s.setPc v).cyc = s.cyc := rfl
@[simp] theorem State.setPc_fault (v : Word) : (s.setPc v).fault = s.fault := rfl
@[simp] theorem State.setPc_ie (v : Word) : (s.setPc v).ie = s.ie := rfl
@[simp] theorem State.setPc_ifr (v : Word) : (s.setPc v).ifr = s.ifr := rfl
@[simp] theorem State.setPc_timer (v : Word) : (s.setPc v).timer = s.timer := rfl
@[simp] theorem State.setPc_ppu (v : Word) : (s.setPc v).ppu = s.ppu := rfl
@[simp] theorem State.setPc_joy (v : Word) : (s.setPc v).joy = s.joy := rfl
@[simp] theorem State.setPc_cart (v : Word) : (s.setPc v).cart = s.cart := rfl
@[simp] theorem State.setPc_wram (v : Word) : (s.setPc v).wram = s.wram := rfl
@[simp] theorem State.setPc_hram (v : Word) : (s.setPc v).hram = s.hram := rfl
@[simp] theorem State.setPc_serout (v : Word) : (s.setPc v).serout = s.serout := rfl
@[simp] theorem State.setPc_extra (v : Word) : (s.setPc v).extra = s.extra := rfl
@[simp] theorem State.setPc_regs_a (v : Word) : (s.setPc v).regs.a = s.regs.a := rfl
@[simp] theorem State.setPc_regs_f (v : Word) : (s.setPc v).regs.f = s.regs.f := rfl
@[simp] theorem State.setPc_regs_b (v : Word) : (s.setPc v).regs.b = s.regs.b := rfl
@[simp] theorem State.setPc_regs_c (v : Word) : (s.setPc v).regs.c = s.regs.c := rfl
@[simp] theorem State.setPc_regs_d (v : Word) : (s.setPc v).regs.d = s.regs.d := rfl
@[simp] theorem State.setPc_regs_e (v : Word) : (s.setPc v).regs.e = s.regs.e := rfl
@[simp] theorem State.setPc_regs_h (v : Word) : (s.setPc v).regs.h = s.regs.h := rfl
@[simp] theorem State.setPc_regs_l (v : Word) : (s.setPc v).regs.l = s.regs.l := rfl
@[simp] theorem State.setPc_regs_sp (v : Word) : (s.setPc v).regs.sp = s.regs.sp := rfl
@[simp] theorem State.setPc_regs_pc (v : Word) : (s.setPc v).regs.pc = v := rfl

/-! `State.setBc`. -/

@[simp] theorem State.setBc_ime (v : Word) : (s.setBc v).ime = s.ime := rfl
@[simp] theorem State.setBc_halted (v : Word) : (s.setBc v).halted = s.halted := rfl
@[simp] theorem State.setBc_cyc (v : Word) : (s.setBc v).cyc = s.cyc := rfl
@[simp] theorem State.setBc_fault (v : Word) : (s.setBc v).fault = s.fault := rfl
@[simp] theorem State.setBc_ie (v : Word) : (s.setBc v).ie = s.ie := rfl
@[simp] theorem State.setBc_ifr (v : Word) : (s.setBc v).ifr = s.ifr := rfl
@[simp] theorem State.setBc_timer (v : Word) : (s.setBc v).timer = s.timer := rfl
@[simp] theorem State.setBc_ppu (v : Word) : (s.setBc v).ppu = s.ppu := rfl
@[simp] theorem State.setBc_joy (v : Word) : (s.setBc v).joy = s.joy := rfl
@[simp] theorem State.setBc_cart (v : Word) : (s.setBc v).cart = s.cart := rfl
@[simp] theorem State.setBc_wram (v : Word) : (s.setBc v).wram = s.wram := rfl
@[simp] theorem State.setBc_hram (v : Word) : (s.setBc v).hram = s.hram := rfl
@[simp] theorem State.setBc_serout (v : Word) : (s.setBc v).serout = s.serout := rfl
@[simp] theorem State.setBc_extra (v : Word) : (s.setBc v).extra = s.extra := rfl
@[simp] theorem State.setBc_regs_a (v : Word) : (s.setBc v).regs.a = s.regs.a := rfl
@[simp] theorem State.setBc_regs_f (v : Word) : (s.setBc v).regs.f = s.regs.f := rfl
@[simp] theorem State.setBc_regs_b (v : Word) : (s.setBc v).regs.b = hiByte v := rfl
@[simp] theorem State.setBc_regs_c (v : Word) : (s.setBc v).regs.c = loByte v := rfl
@[simp] theorem State.setBc_regs_d (v : Word) : (s.setBc v).regs.d = s.regs.d := rfl
@[simp] theorem State.setBc_regs_e (v : Word) : (s.setBc v).regs.e = s.regs.e := rfl
@[simp] theorem State.setBc_regs_h (v : Word) : (s.setBc v).regs.h = s.regs.h := rfl
@[simp] theorem State.setBc_regs_l (v : Word) : (s.setBc v).regs.l = s.regs.l := rfl
@[simp] theorem State.setBc_regs_sp (v : Word) : (s.setBc v).regs.sp = s.regs.sp := rfl
@[simp] theorem State.setBc_regs_pc (v : Word) : (s.setBc v).regs.pc = s.regs.pc := rfl

/-! `State.setDe`. -/

@[simp] theorem State.setDe_ime (v : Word) : (s.setDe v).ime = s.ime := rfl
@[simp] theorem State.setDe_halted (v : Word) : (s.setDe v).halted = s.halted := rfl
@[simp] theorem State.setDe_cyc (v : Word) : (s.setDe v).cyc = s.cyc := rfl
@[simp] theorem State.setDe_fault (v : Word) : (s.setDe v).fault = s.fault := rfl
@[simp] theorem State.setDe_ie (v : Word) : (s.setDe v).ie = s.ie := rfl
@[simp] theorem State.setDe_ifr (v : Word) : (s.setDe v).ifr = s.ifr := rfl
@[simp] theorem State.setDe_timer (v : Word) : (s.setDe v).timer = s.timer := rfl
@[simp] theorem State.setDe_ppu (v : Word) : (s.setDe v).ppu = s.ppu := rfl
@[simp] theorem State.setDe_joy (v : Word) : (s.setDe v).joy = s.joy := rfl
@[simp] theorem State.setDe_cart (v : Word) : (s.setDe v).cart = s.cart := rfl
@[simp] theorem State.setDe_wram (v : Word) : (s.setDe v).wram = s.wram := rfl
@[simp] theorem State.setDe_hram (v : Word) : (s.setDe v).hram = s.hram := rfl
@[simp] theorem State.setDe_serout (v : Word) : (s.setDe v).serout = s.serout := rfl
@[simp] theorem State.setDe_extra (v : Word) : (s.setDe v).extra = s.extra := rfl
@[simp] theorem State.setDe_regs_a (v : Word) : (s.setDe v).regs.a = s.regs.a := rfl
@[simp] theorem State.setDe_regs_f (v : Word) : (s.setDe v).regs.f = s.regs.f := rfl
@[simp] theorem State.setDe_regs_b (v : Word) : (s.setDe v).regs.b = s.regs.b := rfl
@[simp] theorem State.setDe_regs_c (v : Word) : (s.setDe v).regs.c = s.regs.c := rfl
@[simp] theorem State.setDe_regs_d (v : Word) : (s.setDe v).regs.d = hiByte v := rfl
@[simp] theorem State.setDe_regs_e (v : Word) : (s.setDe v).regs.e = loByte v := rfl
@[simp] theorem State.setDe_regs_h (v : Word) : (s.setDe v).regs.h = s.regs.h := rfl
@[simp] theorem State.setDe_regs_l (v : Word) : (s.setDe v).regs.l = s.regs.l := rfl
@[simp] theorem State.setDe_regs_sp (v : Word) : (s.setDe v).regs.sp = s.regs.sp := rfl
@[simp] theorem State.setDe_regs_pc (v : Word) : (s.setDe v).regs.pc = s.regs.pc := rfl

/-! `State.setHl`. -/

@[simp] theorem State.setHl_ime (v : Word) : (s.setHl v).ime = s.ime := rfl
@[simp] theorem State.setHl_halted (v : Word) : (s.setHl v).halted = s.halted := rfl
@[simp] theorem State.setHl_cyc (v : Word) : (s.setHl v).cyc = s.cyc := rfl
@[simp] theorem State.setHl_fault (v : Word) : (s.setHl v).fault = s.fault := rfl
@[simp] theorem State.setHl_ie (v : Word) : (s.setHl v).ie = s.ie := rfl
@[simp] theorem State.setHl_ifr (v : Word) : (s.setHl v).ifr = s.ifr := rfl
@[simp] theorem State.setHl_timer (v : Word) : (s.setHl v).timer = s.timer := rfl
@[simp] theorem State.setHl_ppu (v : Word) : (s.setHl v).ppu = s.ppu := rfl
@[simp] theorem State.setHl_joy (v : Word) : (s.setHl v).joy = s.joy := rfl
@[simp] theorem State.setHl_cart (v : Word) : (s.setHl v).cart = s.cart := rfl
@[simp] theorem State.setHl_wram (v : Word) : (s.setHl v).wram = s.wram := rfl
@[simp] theorem State.setHl_hram (v : Word) : (s.setHl v).hram = s.hram := rfl
@[simp] theorem State.setHl_serout (v : Word) : (s.setHl v).serout = s.serout := rfl
@[simp] theorem State.setHl_extra (v : Word) : (s.setHl v).extra = s.extra := rfl
@[simp] theorem State.setHl_regs_a (v : Word) : (s.setHl v).regs.a = s.regs.a := rfl
@[simp] theorem State.setHl_regs_f (v : Word) : (s.setHl v).regs.f = s.regs.f := rfl
@[simp] theorem State.setHl_regs_b (v : Word) : (s.setHl v).regs.b = s.regs.b := rfl
@[simp] theorem State.setHl_regs_c (v : Word) : (s.setHl v).regs.c = s.regs.c := rfl
@[simp] theorem State.setHl_regs_d (v : Word) : (s.setHl v).regs.d = s.regs.d := rfl
@[simp] theorem State.setHl_regs_e (v : Word) : (s.setHl v).regs.e = s.regs.e := rfl
@[simp] theorem State.setHl_regs_h (v : Word) : (s.setHl v).regs.h = hiByte v := rfl
@[simp] theorem State.setHl_regs_l (v : Word) : (s.setHl v).regs.l = loByte v := rfl
@[simp] theorem State.setHl_regs_sp (v : Word) : (s.setHl v).regs.sp = s.regs.sp := rfl
@[simp] theorem State.setHl_regs_pc (v : Word) : (s.setHl v).regs.pc = s.regs.pc := rfl

/-! `State.setAf`. -/

@[simp] theorem State.setAf_ime (v : Word) : (s.setAf v).ime = s.ime := rfl
@[simp] theorem State.setAf_halted (v : Word) : (s.setAf v).halted = s.halted := rfl
@[simp] theorem State.setAf_cyc (v : Word) : (s.setAf v).cyc = s.cyc := rfl
@[simp] theorem State.setAf_fault (v : Word) : (s.setAf v).fault = s.fault := rfl
@[simp] theorem State.setAf_ie (v : Word) : (s.setAf v).ie = s.ie := rfl
@[simp] theorem State.setAf_ifr (v : Word) : (s.setAf v).ifr = s.ifr := rfl
@[simp] theorem State.setAf_timer (v : Word) : (s.setAf v).timer = s.timer := rfl
@[simp] theorem State.setAf_ppu (v : Word) : (s.setAf v).ppu = s.ppu := rfl
@[simp] theorem State.setAf_joy (v : Word) : (s.setAf v).joy = s.joy := rfl
@[simp] theorem State.setAf_cart (v : Word) : (s.setAf v).cart = s.cart := rfl
@[simp] theorem State.setAf_wram (v : Word) : (s.setAf v).wram = s.wram := rfl
@[simp] theorem State.setAf_hram (v : Word) : (s.setAf v).hram = s.hram := rfl
@[simp] theorem State.setAf_serout (v : Word) : (s.setAf v).serout = s.serout := rfl
@[simp] theorem State.setAf_extra (v : Word) : (s.setAf v).extra = s.extra := rfl
@[simp] theorem State.setAf_regs_a (v : Word) : (s.setAf v).regs.a = hiByte v := rfl
@[simp] theorem State.setAf_regs_f (v : Word) : (s.setAf v).regs.f = loByte v &&& 0xF0 := rfl
@[simp] theorem State.setAf_regs_b (v : Word) : (s.setAf v).regs.b = s.regs.b := rfl
@[simp] theorem State.setAf_regs_c (v : Word) : (s.setAf v).regs.c = s.regs.c := rfl
@[simp] theorem State.setAf_regs_d (v : Word) : (s.setAf v).regs.d = s.regs.d := rfl
@[simp] theorem State.setAf_regs_e (v : Word) : (s.setAf v).regs.e = s.regs.e := rfl
@[simp] theorem State.setAf_regs_h (v : Word) : (s.setAf v).regs.h = s.regs.h := rfl
@[simp] theorem State.setAf_regs_l (v : Word) : (s.setAf v).regs.l = s.regs.l := rfl
@[simp] theorem State.setAf_regs_sp (v : Word) : (s.setAf v).regs.sp = s.regs.sp := rfl
@[simp] theorem State.setAf_regs_pc (v : Word) : (s.setAf v).regs.pc = s.regs.pc := rfl

/-! `State.setRp`. -/

@[simp] theorem State.setRp_ime (p : Rp) (v : Word) : (s.setRp p v).ime = s.ime := by cases p <;> rfl
@[simp] theorem State.setRp_halted (p : Rp) (v : Word) : (s.setRp p v).halted = s.halted := by cases p <;> rfl
@[simp] theorem State.setRp_cyc (p : Rp) (v : Word) : (s.setRp p v).cyc = s.cyc := by cases p <;> rfl
@[simp] theorem State.setRp_fault (p : Rp) (v : Word) : (s.setRp p v).fault = s.fault := by cases p <;> rfl
@[simp] theorem State.setRp_ie (p : Rp) (v : Word) : (s.setRp p v).ie = s.ie := by cases p <;> rfl
@[simp] theorem State.setRp_ifr (p : Rp) (v : Word) : (s.setRp p v).ifr = s.ifr := by cases p <;> rfl
@[simp] theorem State.setRp_timer (p : Rp) (v : Word) : (s.setRp p v).timer = s.timer := by cases p <;> rfl
@[simp] theorem State.setRp_ppu (p : Rp) (v : Word) : (s.setRp p v).ppu = s.ppu := by cases p <;> rfl
@[simp] theorem State.setRp_joy (p : Rp) (v : Word) : (s.setRp p v).joy = s.joy := by cases p <;> rfl
@[simp] theorem State.setRp_cart (p : Rp) (v : Word) : (s.setRp p v).cart = s.cart := by cases p <;> rfl
@[simp] theorem State.setRp_wram (p : Rp) (v : Word) : (s.setRp p v).wram = s.wram := by cases p <;> rfl
@[simp] theorem State.setRp_hram (p : Rp) (v : Word) : (s.setRp p v).hram = s.hram := by cases p <;> rfl
@[simp] theorem State.setRp_serout (p : Rp) (v : Word) : (s.setRp p v).serout = s.serout := by cases p <;> rfl
@[simp] theorem State.setRp_extra (p : Rp) (v : Word) : (s.setRp p v).extra = s.extra := by cases p <;> rfl
@[simp] theorem State.setRp_regs_a (p : Rp) (v : Word) : (s.setRp p v).regs.a = s.regs.a := by cases p <;> rfl
@[simp] theorem State.setRp_regs_f (p : Rp) (v : Word) : (s.setRp p v).regs.f = s.regs.f := by cases p <;> rfl
@[simp] theorem State.setRp_regs_pc (p : Rp) (v : Word) : (s.setRp p v).regs.pc = s.regs.pc := by cases p <;> rfl

/-! `State.setRp2`. -/

@[simp] theorem State.setRp2_ime (p : Rp2) (v : Word) : (s.setRp2 p v).ime = s.ime := by cases p <;> rfl
@[simp] theorem State.setRp2_halted (p : Rp2) (v : Word) : (s.setRp2 p v).halted = s.halted := by cases p <;> rfl
@[simp] theorem State.setRp2_cyc (p : Rp2) (v : Word) : (s.setRp2 p v).cyc = s.cyc := by cases p <;> rfl
@[simp] theorem State.setRp2_fault (p : Rp2) (v : Word) : (s.setRp2 p v).fault = s.fault := by cases p <;> rfl
@[simp] theorem State.setRp2_ie (p : Rp2) (v : Word) : (s.setRp2 p v).ie = s.ie := by cases p <;> rfl
@[simp] theorem State.setRp2_ifr (p : Rp2) (v : Word) : (s.setRp2 p v).ifr = s.ifr := by cases p <;> rfl
@[simp] theorem State.setRp2_timer (p : Rp2) (v : Word) : (s.setRp2 p v).timer = s.timer := by cases p <;> rfl
@[simp] theorem State.setRp2_ppu (p : Rp2) (v : Word) : (s.setRp2 p v).ppu = s.ppu := by cases p <;> rfl
@[simp] theorem State.setRp2_joy (p : Rp2) (v : Word) : (s.setRp2 p v).joy = s.joy := by cases p <;> rfl
@[simp] theorem State.setRp2_cart (p : Rp2) (v : Word) : (s.setRp2 p v).cart = s.cart := by cases p <;> rfl
@[simp] theorem State.setRp2_wram (p : Rp2) (v : Word) : (s.setRp2 p v).wram = s.wram := by cases p <;> rfl
@[simp] theorem State.setRp2_hram (p : Rp2) (v : Word) : (s.setRp2 p v).hram = s.hram := by cases p <;> rfl
@[simp] theorem State.setRp2_serout (p : Rp2) (v : Word) : (s.setRp2 p v).serout = s.serout := by cases p <;> rfl
@[simp] theorem State.setRp2_extra (p : Rp2) (v : Word) : (s.setRp2 p v).extra = s.extra := by cases p <;> rfl
@[simp] theorem State.setRp2_regs_sp (p : Rp2) (v : Word) : (s.setRp2 p v).regs.sp = s.regs.sp := by cases p <;> rfl
@[simp] theorem State.setRp2_regs_pc (p : Rp2) (v : Word) : (s.setRp2 p v).regs.pc = s.regs.pc := by cases p <;> rfl

/-! `State.setIme`. -/

@[simp] theorem State.setIme_regs (b : Bool) : (s.setIme b).regs = s.regs := rfl
@[simp] theorem State.setIme_ime (b : Bool) : (s.setIme b).ime = b := rfl
@[simp] theorem State.setIme_halted (b : Bool) : (s.setIme b).halted = s.halted := rfl
@[simp] theorem State.setIme_cyc (b : Bool) : (s.setIme b).cyc = s.cyc := rfl
@[simp] theorem State.setIme_fault (b : Bool) : (s.setIme b).fault = s.fault := rfl
@[simp] theorem State.setIme_ie (b : Bool) : (s.setIme b).ie = s.ie := rfl
@[simp] theorem State.setIme_ifr (b : Bool) : (s.setIme b).ifr = s.ifr := rfl
@[simp] theorem State.setIme_timer (b : Bool) : (s.setIme b).timer = s.timer := rfl
@[simp] theorem State.setIme_ppu (b : Bool) : (s.setIme b).ppu = s.ppu := rfl
@[simp] theorem State.setIme_joy (b : Bool) : (s.setIme b).joy = s.joy := rfl
@[simp] theorem State.setIme_cart (b : Bool) : (s.setIme b).cart = s.cart := rfl
@[simp] theorem State.setIme_wram (b : Bool) : (s.setIme b).wram = s.wram := rfl
@[simp] theorem State.setIme_hram (b : Bool) : (s.setIme b).hram = s.hram := rfl
@[simp] theorem State.setIme_serout (b : Bool) : (s.setIme b).serout = s.serout := rfl
@[simp] theorem State.setIme_extra (b : Bool) : (s.setIme b).extra = s.extra := rfl

/-! `State.setHalted`. -/

@[simp] theorem State.setHalted_regs (b : Bool) : (s.setHalted b).regs = s.regs := rfl
@[simp] theorem State.setHalted_ime (b : Bool) : (s.setHalted b).ime = s.ime := rfl
@[simp] theorem State.setHalted_halted (b : Bool) : (s.setHalted b).halted = b := rfl
@[simp] theorem State.setHalted_cyc (b : Bool) : (s.setHalted b).cyc = s.cyc := rfl
@[simp] theorem State.setHalted_fault (b : Bool) : (s.setHalted b).fault = s.fault := rfl
@[simp] theorem State.setHalted_ie (b : Bool) : (s.setHalted b).ie = s.ie := rfl
@[simp] theorem State.setHalted_ifr (b : Bool) : (s.setHalted b).ifr = s.ifr := rfl
@[simp] theorem State.setHalted_timer (b : Bool) : (s.setHalted b).timer = s.timer := rfl
@[simp] theorem State.setHalted_ppu (b : Bool) : (s.setHalted b).ppu = s.ppu := rfl
@[simp] theorem State.setHalted_joy (b : Bool) : (s.setHalted b).joy = s.joy := rfl
@[simp] theorem State.setHalted_cart (b : Bool) : (s.setHalted b).cart = s.cart := rfl
@[simp] theorem State.setHalted_wram (b : Bool) : (s.setHalted b).wram = s.wram := rfl
@[simp] theorem State.setHalted_hram (b : Bool) : (s.setHalted b).hram = s.hram := rfl
@[simp] theorem State.setHalted_serout (b : Bool) : (s.setHalted b).serout = s.serout := rfl
@[simp] theorem State.setHalted_extra (b : Bool) : (s.setHalted b).extra = s.extra := rfl

/-! `State.charge`. -/

@[simp] theorem State.charge_regs (n : Nat) : (s.charge n).regs = s.regs := rfl
@[simp] theorem State.charge_ime (n : Nat) : (s.charge n).ime = s.ime := rfl
@[simp] theorem State.charge_halted (n : Nat) : (s.charge n).halted = s.halted := rfl
@[simp] theorem State.charge_cyc (n : Nat) : (s.charge n).cyc = s.cyc + n := rfl
@[simp] theorem State.charge_fault (n : Nat) : (s.charge n).fault = s.fault := rfl
@[simp] theorem State.charge_ie (n : Nat) : (s.charge n).ie = s.ie := rfl
@[simp] theorem State.charge_ifr (n : Nat) : (s.charge n).ifr = s.ifr := rfl
@[simp] theorem State.charge_timer (n : Nat) : (s.charge n).timer = s.timer := rfl
@[simp] theorem State.charge_ppu (n : Nat) : (s.charge n).ppu = s.ppu := rfl
@[simp] theorem State.charge_joy (n : Nat) : (s.charge n).joy = s.joy := rfl
@[simp] theorem State.charge_cart (n : Nat) : (s.charge n).cart = s.cart := rfl
@[simp] theorem State.charge_wram (n : Nat) : (s.charge n).wram = s.wram := rfl
@[simp] theorem State.charge_hram (n : Nat) : (s.charge n).hram = s.hram := rfl
@[simp] theorem State.charge_serout (n : Nat) : (s.charge n).serout = s.serout := rfl
@[simp] theorem State.charge_extra (n : Nat) : (s.charge n).extra = s.extra := rfl

/-! `State.withFault`. -/

@[simp] theorem State.withFault_regs (f : Fault) : (s.withFault f).regs = s.regs := rfl
@[simp] theorem State.withFault_ime (f : Fault) : (s.withFault f).ime = s.ime := rfl
@[simp] theorem State.withFault_halted (f : Fault) : (s.withFault f).halted = s.halted := rfl
@[simp] theorem State.withFault_cyc (f : Fault) : (s.withFault f).cyc = s.cyc := rfl
@[simp] theorem State.withFault_fault (f : Fault) : (s.withFault f).fault = some f := rfl
@[simp] theorem State.withFault_ie (f : Fault) : (s.withFault f).ie = s.ie := rfl
@[simp] theorem State.withFault_ifr (f : Fault) : (s.withFault f).ifr = s.ifr := rfl
@[simp] theorem State.withFault_timer (f : Fault) : (s.withFault f).timer = s.timer := rfl
@[simp] theorem State.withFault_ppu (f : Fault) : (s.withFault f).ppu = s.ppu := rfl
@[simp] theorem State.withFault_joy (f : Fault) : (s.withFault f).joy = s.joy := rfl
@[simp] theorem State.withFault_cart (f : Fault) : (s.withFault f).cart = s.cart := rfl
@[simp] theorem State.withFault_wram (f : Fault) : (s.withFault f).wram = s.wram := rfl
@[simp] theorem State.withFault_hram (f : Fault) : (s.withFault f).hram = s.hram := rfl
@[simp] theorem State.withFault_serout (f : Fault) : (s.withFault f).serout = s.serout := rfl
@[simp] theorem State.withFault_extra (f : Fault) : (s.withFault f).extra = s.extra := rfl

/-! Registers read back after a register write. -/

@[simp] theorem State.setReg_reg_self (r : R8) (v : Byte) : (s.setReg r v).reg r = v := by cases r <;> rfl

theorem State.setReg_reg_other {r q : R8} (h : q ≠ r) (v : Byte) : (s.setReg r v).reg q = s.reg q := by
  cases r <;> cases q <;> first | rfl | exact absurd rfl h

@[simp] theorem State.setReg_reg (r : R8) : s.setReg r (s.reg r) = s := by cases r <;> rfl

@[simp] theorem State.setFlags_reg (g : Flags) (r : R8) : (s.setFlags g).reg r = s.reg r := by cases r <;> rfl

@[simp] theorem State.setFlags_hl (g : Flags) : (s.setFlags g).hl = s.hl := rfl

@[simp] theorem State.charge_reg (n : Nat) (r : R8) : (s.charge n).reg r = s.reg r := by cases r <;> rfl

@[simp] theorem State.charge_rp (n : Nat) (p : Rp) : (s.charge n).rp p = s.rp p := by cases p <;> rfl

@[simp] theorem State.charge_rp2 (n : Nat) (p : Rp2) : (s.charge n).rp2 p = s.rp2 p := by cases p <;> rfl

@[simp] theorem State.charge_hl (n : Nat) : (s.charge n).hl = s.hl := rfl

@[simp] theorem State.charge_flags (n : Nat) : (s.charge n).flags = s.flags := rfl

@[simp] theorem State.charge_charge (m n : Nat) : (s.charge m).charge n = s.charge (m + n) := by
  simp [State.charge, Nat.add_assoc]

/-! Byte order and flags. -/

@[simp] theorem hiByte_word16 (h l : Byte) : hiByte (word16 h l) = h := by
  apply BitVec.eq_of_getLsbD_eq; intro i hi
  simp only [hiByte, word16, BitVec.getLsbD_extractLsb', BitVec.getLsbD_append]
  simp [hi]

@[simp] theorem loByte_word16 (h l : Byte) : loByte (word16 h l) = l := by
  apply BitVec.eq_of_getLsbD_eq; intro i hi
  simp only [loByte, word16, BitVec.getLsbD_extractLsb', BitVec.getLsbD_append]
  simp [hi]

@[simp] theorem word16_hiByte_loByte (v : Word) : word16 (hiByte v) (loByte v) = v := by
  apply BitVec.eq_of_getLsbD_eq; intro i hi
  simp only [hiByte, loByte, word16, BitVec.getLsbD_extractLsb', BitVec.getLsbD_append]
  by_cases h : i < 8
  · simp [h]
  · have h8 : i - 8 < 8 := by omega
    have hi' : 8 + (i - 8) = i := by omega
    simp [h, h8, hi']

@[simp] theorem State.setHl_hl (v : Word) : (s.setHl v).hl = v := by simp [State.hl]

@[simp] theorem State.setRp_rp (p : Rp) (v : Word) : (s.setRp p v).rp p = v := by
  cases p <;> simp [State.rp, State.setRp, State.bc, State.de, State.hl]

@[simp] theorem Flags.toByte_and (g : Flags) : g.toByte &&& 0xF0 = g.toByte := by
  rcases g with ⟨z, n, h, c⟩; cases z <;> cases n <;> cases h <;> cases c <;> rfl

@[simp] theorem Flags.ofByte_toByte (g : Flags) : Flags.ofByte g.toByte = g := by
  rcases g with ⟨z, n, h, c⟩; cases z <;> cases n <;> cases h <;> cases c <;> rfl

@[simp] theorem State.setFlags_flags (g : Flags) : (s.setFlags g).flags = g := by
  show Flags.ofByte (g.toByte &&& 0xF0) = g
  rw [Flags.toByte_and, Flags.ofByte_toByte]

end Sys2Proof.Machine
end

