-- ==== Sys2Proof/Laws/Ops.lean ====
section
/-! SUPPORT. One lemma per shared operation of Machine/Ops.lean: what it answers and from which state. -/

namespace Sys2Proof.Machine

variable {α β : Type} {s t : State}

/-! The monad. -/

theorem M.bind_ok {x : M α} {f : α → M β} {a : α} (h : x s = .ok a t) : (x >>= f) s = f a t := by
  show EStateM.bind x f s = _
  rw [EStateM.bind, h]

theorem M.bind_error {x : M α} {f : α → M β} {e : Fault} (h : x s = .error e t) : (x >>= f) s = .error e t := by
  show EStateM.bind x f s = _
  rw [EStateM.bind, h]

/-- A sequence that answers `.ok` answered `.ok` in both parts. -/
theorem M.ok_of_bind {x : M α} {f : α → M β} {b : β} (h : (x >>= f) s = .ok b t) :
    ∃ a u, x s = .ok a u ∧ f a u = .ok b t := by
  change EStateM.bind x f s = _ at h
  rw [EStateM.bind] at h
  split at h
  · exact ⟨_, _, by assumption, h⟩
  · cases h

/-- A sequence that raises an error raised it in its first part or in its second. -/
theorem M.error_of_bind {x : M α} {f : α → M β} {e : Fault} (h : (x >>= f) s = .error e t) :
    x s = .error e t ∨ ∃ a u, x s = .ok a u ∧ f a u = .error e t := by
  change EStateM.bind x f s = _ at h
  rw [EStateM.bind] at h
  split at h
  · exact .inr ⟨_, _, by assumption, h⟩
  · cases h; exact .inl (by assumption)

@[simp] theorem M.pure_run (a : α) : (pure a : M α) s = .ok a s := rfl

@[simp] theorem update_run (g : State → State) : update g s = .ok () (g s) := rfl

@[simp] theorem view_run (g : State → α) : view g s = .ok (g s) s := rfl

@[simp] theorem tick_run : tick s = .ok () (s.charge 4) := rfl

@[simp] theorem raise_run (f : Fault) : (raise f : M α) s = .error f s := rfl

@[simp] theorem M.set_run (u : State) : (set u : M PUnit) s = .ok () u := rfl

@[simp] theorem update_bind (g : State → State) (f : Unit → M β) : (update g >>= f) s = f () (g s) := rfl

@[simp] theorem view_bind (g : State → α) (f : α → M β) : (view g >>= f) s = f (g s) s := rfl

@[simp] theorem tick_bind (f : Unit → M β) : (tick >>= f) s = f () (s.charge 4) := rfl

@[simp] theorem pure_bind_run (a : α) (f : α → M β) : ((pure a : M α) >>= f) s = f a s := rfl

theorem answer_ok {m : M Unit} {u : Unit} (h : m s = .ok u t) : answer m s = .next t := by rw [answer, h]

theorem answer_error {m : M Unit} {f : Fault} (h : m s = .error f t) : answer m s = .next (t.withFault f) := by
  rw [answer, h]

/-- An operation's answer is always a next state: the state it reached, or the fault it raised held in it. -/
theorem answer_cases (m : M Unit) (s : State) :
    (∃ t, m s = .ok () t ∧ answer m s = .next t) ∨
      ∃ f t, m s = .error f t ∧ answer m s = .next (t.withFault f) := by
  cases h : m s with
  | ok u t => exact .inl ⟨t, rfl, answer_ok h⟩
  | error f t => exact .inr ⟨f, t, rfl, answer_error h⟩

/-! Bus accesses. -/

@[simp] theorem busRead_charge (n : Nat) (a : Word) : busRead (s.charge n) a = busRead s a := rfl

@[simp] theorem busRead_setReg (r : R8) (v : Byte) (a : Word) : busRead (s.setReg r v) a = busRead s a := by
  cases r <;> rfl

@[simp] theorem busRead_setF (v : Byte) (a : Word) : busRead (s.setF v) a = busRead s a := rfl

@[simp] theorem busRead_setFlags (g : Flags) (a : Word) : busRead (s.setFlags g) a = busRead s a := rfl

@[simp] theorem busRead_setSp (v a : Word) : busRead (s.setSp v) a = busRead s a := rfl

@[simp] theorem busRead_setPc (v a : Word) : busRead (s.setPc v) a = busRead s a := rfl

@[simp] theorem busRead_setHl (v a : Word) : busRead (s.setHl v) a = busRead s a := rfl

@[simp] theorem busRead_setIme (b : Bool) (a : Word) : busRead (s.setIme b) a = busRead s a := rfl

@[simp] theorem busRead_setHalted (b : Bool) (a : Word) : busRead (s.setHalted b) a = busRead s a := rfl

@[simp] theorem busRead_withFault (f : Fault) (a : Word) : busRead (s.withFault f) a = busRead s a := rfl

theorem memRead_ok {a : Word} {v : Byte} (h : busRead s a = .ok v) : memRead a s = .ok v (s.charge 4) := by
  show (tick >>= fun _ => view (busRead · a) >>= fun x => orRaise x) s = _
  simp [h, orRaise]

theorem memRead_error {a : Word} {f : Fault} (h : busRead s a = .error f) : memRead a s = .error f (s.charge 4) := by
  show (tick >>= fun _ => view (busRead · a) >>= fun x => orRaise x) s = _
  simp [h, orRaise]

/-- MemRead(a) charges 4 cycles and changes nothing else, whether it answers a byte or a fault (R10, R102). -/
theorem memRead_cases (a : Word) (s : State) :
    (∃ v, busRead s a = .ok v ∧ memRead a s = .ok v (s.charge 4)) ∨
      ∃ f, busRead s a = .error f ∧ memRead a s = .error f (s.charge 4) := by
  cases h : busRead s a with
  | ok v => exact .inl ⟨v, rfl, memRead_ok h⟩
  | error f => exact .inr ⟨f, rfl, memRead_error h⟩

theorem memStore_ok {a : Word} {v : Byte} (h : busStore (s.charge 4) a v = .ok t) : memStore a v s = .ok () t := by
  show (tick >>= fun _ => view (busStore · a v) >>= fun x => orRaise x >>= fun u => set u) s = _
  simp [h, orRaise]

theorem memStore_error {a : Word} {v : Byte} {f : Fault} (h : busStore (s.charge 4) a v = .error f) :
    memStore a v s = .error f (s.charge 4) := by
  show (tick >>= fun _ => view (busStore · a v) >>= fun x => orRaise x >>= fun u => set u) s = _
  simp only [tick_bind, view_bind, h, orRaise]
  exact M.bind_error rfl

theorem memStore_cases (a : Word) (v : Byte) (s : State) :
    (∃ t, busStore (s.charge 4) a v = .ok t ∧ memStore a v s = .ok () t) ∨
      ∃ f, busStore (s.charge 4) a v = .error f ∧ memStore a v s = .error f (s.charge 4) := by
  cases h : busStore (s.charge 4) a v with
  | ok t => exact .inl ⟨t, rfl, memStore_ok h⟩
  | error f => exact .inr ⟨f, rfl, memStore_error h⟩

theorem memWrite_store {a : Word} (h : a ≠ 0xFF46) (v : Byte) : memWrite a v = memStore a v := if_neg h

theorem memWrite_dma (v : Byte) : memWrite 0xFF46 v s = oamDma v (s.charge 4) := rfl

theorem oamDma_badPage {v : Byte} (h : v.toNat < 0x80 ∨ 0xDF < v.toNat) : oamDma v s = .error (.configError v) s := by
  rw [oamDma, if_pos h]; rfl

theorem oamDma_goodPage {v : Byte} (h : 0x80 ≤ v.toNat ∧ v.toNat ≤ 0xDF) : oamDma v = oamDmaFrom v 160 0 :=
  if_neg (by omega)

theorem oamDmaFrom_succ {page : Byte} {n i : Nat} {v : Byte}
    (hr : busRead s (word16 page 0 + BitVec.ofNat 16 i) = .ok v)
    (hw : busStore ((s.charge 4).charge 4) (0xFE00 + BitVec.ofNat 16 i) v = .ok t) :
    oamDmaFrom page (n + 1) i s = oamDmaFrom page n (i + 1) t := by
  rw [oamDmaFrom, M.bind_ok (memRead_ok hr), M.bind_ok (memStore_ok hw)]

theorem oamDmaFrom_error {page : Byte} {n i : Nat} {f : Fault}
    (hr : busRead s (word16 page 0 + BitVec.ofNat 16 i) = .error f) :
    oamDmaFrom page (n + 1) i s = .error f (s.charge 4) := by
  rw [oamDmaFrom, M.bind_error (memRead_error hr)]

/-! Fetching and the stack. -/

theorem fetch8_ok {v : Byte} (h : busRead s s.regs.pc = .ok v) :
    fetch8 s = .ok v ((s.charge 4).setPc (s.regs.pc + 1)) := by
  show (view (·.regs.pc) >>= fun a => memRead a >>= fun v => update _ >>= fun _ => pure v) s = _
  simp only [view_bind]
  rw [M.bind_ok (memRead_ok h)]
  rfl

theorem fetch8_error {f : Fault} (h : busRead s s.regs.pc = .error f) : fetch8 s = .error f (s.charge 4) := by
  show (view (·.regs.pc) >>= fun a => memRead a >>= fun v => update _ >>= fun _ => pure v) s = _
  simp only [view_bind]
  rw [M.bind_error (memRead_error h)]

/-- Push16(v) is the two stores of R98. -/
theorem push16_run (v : Word) : push16 v s =
    (memWrite (s.regs.sp - 1) (hiByte v) >>= fun _ => update (fun u => u.setSp (u.regs.sp - 1)) >>= fun _ =>
      view (·.regs.sp) >>= fun a => memWrite a (loByte v)) (s.setSp (s.regs.sp - 1)) := rfl

/-- Pop16() with both bytes readable (R98). -/
theorem pop16_ok {lo hi : Byte} (hl : busRead s s.regs.sp = .ok lo) (hh : busRead s (s.regs.sp + 1) = .ok hi) :
    pop16 s = .ok (word16 hi lo) ((s.charge 8).setSp (s.regs.sp + 2)) := by
  show (view (·.regs.sp) >>= fun a => memRead a >>= fun lo => update _ >>= fun _ =>
    view (·.regs.sp) >>= fun a => memRead a >>= fun hi => update _ >>= fun _ => pure (word16 hi lo)) s = _
  simp only [view_bind]
  rw [M.bind_ok (memRead_ok hl)]
  simp only [update_bind, view_bind]
  rw [M.bind_ok (memRead_ok (v := hi) (by simpa using hh))]
  simp only [update_bind, M.pure_run]
  simp [State.setSp, State.charge, BitVec.add_assoc]

/-- Pop16() whose first read faults. -/
theorem pop16_errorLo {f : Fault} (h : busRead s s.regs.sp = .error f) : pop16 s = .error f (s.charge 4) := by
  show (view (·.regs.sp) >>= fun a => memRead a >>= fun lo => update _ >>= fun _ =>
    view (·.regs.sp) >>= fun a => memRead a >>= fun hi => update _ >>= fun _ => pure (word16 hi lo)) s = _
  simp only [view_bind]
  rw [M.bind_error (memRead_error h)]

/-- Pop16() whose second read faults: SP has moved past the low byte. -/
theorem pop16_errorHi {lo : Byte} {f : Fault} (hl : busRead s s.regs.sp = .ok lo)
    (hh : busRead s (s.regs.sp + 1) = .error f) :
    pop16 s = .error f ((s.charge 8).setSp (s.regs.sp + 1)) := by
  show (view (·.regs.sp) >>= fun a => memRead a >>= fun lo => update _ >>= fun _ =>
    view (·.regs.sp) >>= fun a => memRead a >>= fun hi => update _ >>= fun _ => pure (word16 hi lo)) s = _
  simp only [view_bind]
  rw [M.bind_ok (memRead_ok hl)]
  simp only [update_bind, view_bind]
  rw [M.bind_error (memRead_error (f := f) (by simpa using hh))]
  simp [State.setSp, State.charge]

end Sys2Proof.Machine
end

