-- ==== Sys2Proof/Laws/Bus.lean ====
section
/-! SUPPORT. What one bus access can do (20_memory.md R73 to R97): a case principle for the write dispatch, what a write
leaves alone, when it faults, and that it keeps every memory canonical. -/

namespace Sys2Proof.Machine

variable {s t : State} {a : Word} {v : Byte}

theorem ite_cases {α : Type} {c : Prop} [Decidable c] {P : α → Prop} {x y : α} (hx : c → P x) (hy : ¬c → P y) :
    P (if c then x else y) := by
  by_cases h : c
  · rw [if_pos h]; exact hx h
  · rw [if_neg h]; exact hy h

theorem ite_rel {α β : Type} {c : Prop} [Decidable c] {P : α → β → Prop} {x y : α} {x' y' : β} (hx : c → P x x')
    (hy : ¬c → P y y') : P (if c then x else y) (if c then x' else y') := by
  by_cases h : c
  · rw [if_pos h, if_pos h]; exact hx h
  · rw [if_neg h, if_neg h]; exact hy h

/-- The write dispatch of R74, one case per handler. -/
theorem busStore_cases {P : Except Fault State → Prop}
    (cart : a.toNat ≤ 0x7FFF ∨ 0xA000 ≤ a.toNat ∧ a.toNat ≤ 0xBFFF → P (busCartWrite s a v))
    (vram : 0x8000 ≤ a.toNat ∧ a.toNat ≤ 0x9FFF → P (.ok { s with ppu := vramWrite s.ppu a v }))
    (wram : 0xC000 ≤ a.toNat ∧ a.toNat ≤ 0xDFFF → P (.ok { s with wram := s.wram.write (a &&& 0x1FFF).toNat v }))
    (oam : 0xFE00 ≤ a.toNat ∧ a.toNat ≤ 0xFE9F → P (.ok { s with ppu := oamWrite s.ppu a v }))
    (joyp : a = 0xFF00 → P (.ok { s with joy := joypadWrite s.joy v }))
    (sb : a = 0xFF01 → P (.ok { s with serout := s.serout ++ [v] }))
    (timer : 0xFF04 ≤ a.toNat ∧ a.toNat ≤ 0xFF07 → P (.ok { s with timer := timerWrite s.timer a v }))
    (ifr : a = 0xFF0F → P (.ok { s with ifr := v }))
    (ppu : isPpuReg a = true → P (.ok (ppuRegWrite a v s)))
    (hram : 0xFF80 ≤ a.toNat ∧ a.toNat ≤ 0xFFFE → P (.ok { s with hram := s.hram.write (a.toNat - 0xFF80) v }))
    (ie : a = 0xFFFF → P (.ok { s with ie := v }))
    (unmapped : P (.ok s)) : P (busStore s a v) := by
  unfold busStore
  refine ite_cases (fun h1 => cart (.inl h1)) fun h1 => ?_
  refine ite_cases (fun h2 => vram ⟨by omega, h2⟩) fun h2 => ?_
  refine ite_cases (fun h3 => cart (.inr ⟨by omega, h3⟩)) fun h3 => ?_
  refine ite_cases (fun h4 => wram ⟨by omega, h4⟩) fun h4 => ?_
  refine ite_cases oam fun _ => ?_
  refine ite_cases joyp fun _ => ?_
  refine ite_cases sb fun _ => ?_
  refine ite_cases timer fun _ => ?_
  refine ite_cases ifr fun _ => ?_
  refine ite_cases ppu fun _ => ?_
  refine ite_cases hram fun _ => ?_
  exact ite_cases ie fun _ => unmapped

/-- EnterMode(m) changes IF and the PPU only, as functions of IF and the PPU (R432). -/
theorem enterMode_eq (m : PpuMode) (s : State) : enterMode m s =
    { s with ifr := if s.ppu.modeEnable m then s.ifr ||| Interrupt.stat.mask else s.ifr
             ppu := if m = .transfer then renderScanline { s.ppu with mode := m } else { s.ppu with mode := m } } := by
  unfold enterMode requestIrq
  cases h : s.ppu.modeEnable m <;> by_cases hm : m = .transfer <;> simp [hm]

/-- A write of LCDC changes IF and the PPU only (R438). -/
theorem lcdcWrite_eq (v : Byte) (s : State) : lcdcWrite v s =
    if v.getLsbD 7 = s.ppu.displayOn then { s with ppu := { s.ppu with lcdc := v } }
    else
      let m := if v.getLsbD 7 then PpuMode.oamScan else PpuMode.hblank
      { s with ifr := if s.ppu.modeEnable m then s.ifr ||| Interrupt.stat.mask else s.ifr
               ppu := { s.ppu with lcdc := v, ly := 0, pcnt := 0, mode := m } } := by
  unfold lcdcWrite
  refine ite_rel (P := fun x y => x = y) (fun _ => rfl) fun _ => ?_
  rw [enterMode_eq]
  cases v.getLsbD 7 <;> rfl

/-- `t` is `s` with some of the plain PPU registers changed: those the mode machine does not own (10_state.md R46, R47). -/
def PlainPpuWrite (s t : State) : Prop :=
  ∃ p : Ppu, t = { s with ppu := p } ∧
    p = { s.ppu with staten := p.staten, scy := p.scy, scx := p.scx, lyc := p.lyc, bgp := p.bgp, obp0 := p.obp0,
                     obp1 := p.obp1, wy := p.wy, wx := p.wx }

/-- A write of a PPU register other than LCDC changes plain registers only (R439). -/
theorem ppuRegWrite_plain (h : a ≠ 0xFF40) : PlainPpuWrite s (ppuRegWrite a v s) := by
  unfold ppuRegWrite
  rw [if_neg h]
  refine ite_cases (fun _ => ⟨_, rfl, rfl⟩) fun _ => ?_
  refine ite_cases (fun _ => ⟨_, rfl, rfl⟩) fun _ => ?_
  refine ite_cases (fun _ => ⟨_, rfl, rfl⟩) fun _ => ?_
  refine ite_cases (fun _ => ⟨_, rfl, rfl⟩) fun _ => ?_
  refine ite_cases (fun _ => ⟨_, rfl, rfl⟩) fun _ => ?_
  refine ite_cases (fun _ => ⟨_, rfl, rfl⟩) fun _ => ?_
  refine ite_cases (fun _ => ⟨_, rfl, rfl⟩) fun _ => ?_
  refine ite_cases (fun _ => ⟨_, rfl, rfl⟩) fun _ => ?_
  exact ite_cases (fun _ => ⟨_, rfl, rfl⟩) fun _ => ⟨_, rfl, rfl⟩

/-- A write of a PPU register changes IF and the PPU only. -/
theorem ppuRegWrite_eq (a : Word) (v : Byte) (s : State) :
    ∃ f p, ppuRegWrite a v s = { s with ifr := f, ppu := p } := by
  by_cases h : a = 0xFF40
  · subst h
    refine ⟨(lcdcWrite v s).ifr, (lcdcWrite v s).ppu, ?_⟩
    show lcdcWrite v s = _
    rw [lcdcWrite_eq]
    split <;> rfl
  · obtain ⟨p, hp, -⟩ := ppuRegWrite_plain (s := s) (v := v) h
    exact ⟨s.ifr, p, hp⟩

/-- What every bus write leaves alone: the CPU's registers, IME, halted, cyc, fault and the constants (R74). -/
theorem busStore_keeps (h : busStore s a v = .ok t) :
    t.regs = s.regs ∧ t.ime = s.ime ∧ t.halted = s.halted ∧ t.cyc = s.cyc ∧ t.fault = s.fault ∧ t.extra = s.extra := by
  revert h
  refine busStore_cases (P := fun x => x = .ok t → _) ?_ ?_ ?_ ?_ ?_ ?_ ?_ ?_ ?_ ?_ ?_ ?_
  any_goals (intro _ h; cases h; exact ⟨rfl, rfl, rfl, rfl, rfl, rfl⟩)
  · intro _ h
    unfold busCartWrite at h
    split at h <;> cases h
    exact ⟨rfl, rfl, rfl, rfl, rfl, rfl⟩
  · intro _ h
    obtain ⟨f, p, hp⟩ := ppuRegWrite_eq a v s
    rw [hp] at h
    cases h
    exact ⟨rfl, rfl, rfl, rfl, rfl, rfl⟩
  · intro h
    cases h
    exact ⟨rfl, rfl, rfl, rfl, rfl, rfl⟩

/-- The state with the CPU's own state replaced: what no bus access reads. -/
def State.withCpu (s : State) (r : Regs) (ime halted : Bool) (cyc : Nat) (fault : Option Fault) : State :=
  { s with regs := r, ime := ime, halted := halted, cyc := cyc, fault := fault }

theorem lcdcWrite_withCpu (r : Regs) (i h : Bool) (c : Nat) (f : Option Fault) :
    lcdcWrite v (s.withCpu r i h c f) = (lcdcWrite v s).withCpu r i h c f := by
  rw [lcdcWrite_eq, lcdcWrite_eq]
  exact ite_rel (P := fun x y => x = State.withCpu y r i h c f) (fun _ => rfl) fun _ => rfl

theorem ppuRegWrite_withCpu (r : Regs) (i h : Bool) (c : Nat) (f : Option Fault) :
    ppuRegWrite a v (s.withCpu r i h c f) = (ppuRegWrite a v s).withCpu r i h c f := by
  unfold ppuRegWrite
  refine ite_rel (P := fun x y => x = State.withCpu y r i h c f) (fun _ => lcdcWrite_withCpu r i h c f) fun _ => ?_
  refine ite_rel (P := fun x y => x = State.withCpu y r i h c f) (fun _ => rfl) fun _ => ?_
  refine ite_rel (P := fun x y => x = State.withCpu y r i h c f) (fun _ => rfl) fun _ => ?_
  refine ite_rel (P := fun x y => x = State.withCpu y r i h c f) (fun _ => rfl) fun _ => ?_
  refine ite_rel (P := fun x y => x = State.withCpu y r i h c f) (fun _ => rfl) fun _ => ?_
  refine ite_rel (P := fun x y => x = State.withCpu y r i h c f) (fun _ => rfl) fun _ => ?_
  refine ite_rel (P := fun x y => x = State.withCpu y r i h c f) (fun _ => rfl) fun _ => ?_
  refine ite_rel (P := fun x y => x = State.withCpu y r i h c f) (fun _ => rfl) fun _ => ?_
  refine ite_rel (P := fun x y => x = State.withCpu y r i h c f) (fun _ => rfl) fun _ => ?_
  exact ite_rel (P := fun x y => x = State.withCpu y r i h c f) (fun _ => rfl) fun _ => rfl

/-- A bus write neither reads nor changes the CPU's registers, IME, halted, cyc and fault (R74). -/
theorem busStore_withCpu (r : Regs) (i h : Bool) (c : Nat) (f : Option Fault) :
    busStore (s.withCpu r i h c f) a v = (busStore s a v).map (·.withCpu r i h c f) := by
  have cart : busCartWrite (s.withCpu r i h c f) a v = (busCartWrite s a v).map (·.withCpu r i h c f) := by
    unfold busCartWrite
    show (match cartWrite s.cart a v with | .ok c => _ | .error f => _) = _
    cases cartWrite s.cart a v <;> rfl
  unfold busStore
  refine ite_rel (P := fun x y => x = Except.map _ y) (fun _ => cart) fun _ => ?_
  refine ite_rel (P := fun x y => x = Except.map _ y) (fun _ => rfl) fun _ => ?_
  refine ite_rel (P := fun x y => x = Except.map _ y) (fun _ => cart) fun _ => ?_
  refine ite_rel (P := fun x y => x = Except.map _ y) (fun _ => rfl) fun _ => ?_
  refine ite_rel (P := fun x y => x = Except.map _ y) (fun _ => rfl) fun _ => ?_
  refine ite_rel (P := fun x y => x = Except.map _ y) (fun _ => rfl) fun _ => ?_
  refine ite_rel (P := fun x y => x = Except.map _ y) (fun _ => rfl) fun _ => ?_
  refine ite_rel (P := fun x y => x = Except.map _ y) (fun _ => rfl) fun _ => ?_
  refine ite_rel (P := fun x y => x = Except.map _ y) (fun _ => rfl) fun _ => ?_
  refine ite_rel (P := fun x y => x = Except.map _ y)
    (fun _ => congrArg Except.ok (ppuRegWrite_withCpu r i h c f)) fun _ => ?_
  refine ite_rel (P := fun x y => x = Except.map _ y) (fun _ => rfl) fun _ => ?_
  exact ite_rel (P := fun x y => x = Except.map _ y) (fun _ => rfl) fun _ => rfl

theorem busRead_withCpu (r : Regs) (i h : Bool) (c : Nat) (f : Option Fault) :
    busRead (s.withCpu r i h c f) a = busRead s a := rfl

theorem busStore_charge (n : Nat) : busStore (s.charge n) a v = (busStore s a v).map (·.charge n) := by
  have h := busStore_withCpu (s := s) (a := a) (v := v) s.regs s.ime s.halted (s.cyc + n) s.fault
  change busStore (s.charge n) a v = _ at h
  rw [h]
  cases hb : busStore s a v with
  | error f => rfl
  | ok t =>
    obtain ⟨h1, h2, h3, h4, h5, -⟩ := busStore_keeps hb
    simp [Except.map, State.withCpu, State.charge, ← h1, ← h2, ← h3, ← h4, ← h5]

theorem busStore_setSp (w : Word) : busStore (s.setSp w) a v = (busStore s a v).map (·.setSp w) := by
  have h := busStore_withCpu (s := s) (a := a) (v := v) { s.regs with sp := w } s.ime s.halted s.cyc s.fault
  change busStore (s.setSp w) a v = _ at h
  rw [h]
  cases hb : busStore s a v with
  | error f => rfl
  | ok t =>
    obtain ⟨h1, h2, h3, h4, h5, -⟩ := busStore_keeps hb
    simp [Except.map, State.withCpu, State.setSp, ← h1, ← h2, ← h3, ← h4, ← h5]

/-- When a bus write faults: an enabled access to external RAM outside it, and nothing else (R95). -/
theorem busStore_error {f : Fault} (h : busStore s a v = .error f) :
    f = .boundsError a ∧ 0xA000 ≤ a.toNat ∧ a.toNat ≤ 0xBFFF ∧ s.cart.ramen = true ∧
      s.cart.cramSize ≤ cramIndex s.cart a := by
  revert h
  refine busStore_cases (P := fun x => x = .error f → _) ?_ ?_ ?_ ?_ ?_ ?_ ?_ ?_ ?_ ?_ ?_ ?_
  any_goals (intro _ h; cases h)
  · intro ha h
    have hc : cartWrite s.cart a v = .error f := by
      unfold busCartWrite at h
      split at h
      · cases h
      · rename_i g hg; cases h; exact hg
    revert hc
    unfold cartWrite
    refine ite_cases (P := fun x => x = Except.error f → _) (fun _ h => by cases h) fun _ => ?_
    refine ite_cases (P := fun x => x = Except.error f → _) (fun _ h => by cases h) fun _ => ?_
    refine ite_cases (P := fun x => x = Except.error f → _) (fun _ h => by cases h) fun _ => ?_
    refine ite_cases (P := fun x => x = Except.error f → _) (fun _ h => by cases h) fun h4 => ?_
    refine ite_cases (P := fun x => x = Except.error f → _) (fun _ h => by cases h) fun h5 => ?_
    refine ite_cases (P := fun x => x = Except.error f → _) (fun _ h => by cases h) fun h6 h => ?_
    cases h
    exact ⟨rfl, by omega, by omega, by simpa using h5, by omega⟩
  · intro h; cases h

theorem busStore_ok (h : 0xA000 ≤ a.toNat → a.toNat ≤ 0xBFFF → s.cart.ramen = true →
    cramIndex s.cart a < s.cart.cramSize) : ∃ t, busStore s a v = .ok t := by
  cases hb : busStore s a v with
  | ok t => exact ⟨t, rfl⟩
  | error f =>
    obtain ⟨-, h1, h2, h3, h4⟩ := busStore_error hb
    exact absurd (h h1 h2 h3) (by omega)

/-! Reading. -/

/-- A read depends only on the handler its address reaches (R73). A handler that the two states share needs no proof. -/
theorem busRead_congr {b : Word}
    (cart : b.toNat ≤ 0x7FFF ∨ 0xA000 ≤ b.toNat ∧ b.toNat ≤ 0xBFFF →
      cartRead t.cart b = cartRead s.cart b := by intro; rfl)
    (vram : 0x8000 ≤ b.toNat ∧ b.toNat ≤ 0x9FFF → vramRead t.ppu b = vramRead s.ppu b := by intro; rfl)
    (wram : 0xC000 ≤ b.toNat ∧ b.toNat ≤ 0xDFFF →
      t.wram.read (b &&& 0x1FFF).toNat = s.wram.read (b &&& 0x1FFF).toNat := by intro; rfl)
    (oam : 0xFE00 ≤ b.toNat ∧ b.toNat ≤ 0xFE9F → oamRead t.ppu b = oamRead s.ppu b := by intro; rfl)
    (joyp : b = 0xFF00 → joypadRead t.joy = joypadRead s.joy := by intro; rfl)
    (timer : 0xFF04 ≤ b.toNat ∧ b.toNat ≤ 0xFF07 → timerRead t.timer b = timerRead s.timer b := by intro; rfl)
    (ifr : b = 0xFF0F → t.ifr = s.ifr := by intro; rfl)
    (ppu : isPpuReg b = true → ppuRegRead t.ppu b = ppuRegRead s.ppu b := by intro; rfl)
    (hram : 0xFF80 ≤ b.toNat ∧ b.toNat ≤ 0xFFFE →
      t.hram.read (b.toNat - 0xFF80) = s.hram.read (b.toNat - 0xFF80) := by intro; rfl)
    (ie : b = 0xFFFF → t.ie = s.ie := by intro; rfl) : busRead t b = busRead s b := by
  unfold busRead
  refine ite_rel (P := fun x y => x = y) (fun h1 => cart (.inl h1)) fun h1 => ?_
  refine ite_rel (P := fun x y => x = y) (fun h2 => congrArg _ (vram ⟨by omega, h2⟩)) fun h2 => ?_
  refine ite_rel (P := fun x y => x = y) (fun h3 => cart (.inr ⟨by omega, h3⟩)) fun h3 => ?_
  refine ite_rel (P := fun x y => x = y) (fun h4 => congrArg _ (wram ⟨by omega, h4⟩)) fun h4 => ?_
  refine ite_rel (P := fun x y => x = y) (fun h => congrArg _ (oam h)) fun _ => ?_
  refine ite_rel (P := fun x y => x = y) (fun h => congrArg _ (joyp h)) fun _ => ?_
  refine ite_rel (P := fun x y => x = y) (fun h => congrArg _ (timer h)) fun _ => ?_
  refine ite_rel (P := fun x y => x = y) (fun h => congrArg _ (ifr h)) fun _ => ?_
  refine ite_rel (P := fun x y => x = y) (fun h => congrArg _ (ppu h)) fun _ => ?_
  refine ite_rel (P := fun x y => x = y) (fun h => congrArg _ (hram h)) fun _ => ?_
  exact ite_rel (P := fun x y => x = y) (fun h => congrArg _ (ie h)) fun _ => rfl

/-- A read of the PPU's register file depends only on the register its address names. -/
theorem ppuRegRead_congr {p q : Ppu} {b : Word} (lcdc : b = 0xFF40 → q.lcdc = p.lcdc := by intro; rfl)
    (stat : b = 0xFF41 → statRead q = statRead p := by intro; rfl)
    (scy : b = 0xFF42 → q.scy = p.scy := by intro; rfl)
    (scx : b = 0xFF43 → q.scx = p.scx := by intro; rfl)
    (ly : b = 0xFF44 → q.ly = p.ly := by intro; rfl)
    (lyc : b = 0xFF45 → q.lyc = p.lyc := by intro; rfl)
    (bgp : b = 0xFF47 → q.bgp = p.bgp := by intro; rfl)
    (obp0 : b = 0xFF48 → q.obp0 = p.obp0 := by intro; rfl)
    (obp1 : b = 0xFF49 → q.obp1 = p.obp1 := by intro; rfl)
    (wy : b = 0xFF4A → q.wy = p.wy := by intro; rfl)
    (wx : b ≠ 0xFF40 ∧ b ≠ 0xFF41 ∧ b ≠ 0xFF42 ∧ b ≠ 0xFF43 ∧ b ≠ 0xFF44 ∧
      b ≠ 0xFF45 ∧ b ≠ 0xFF47 ∧ b ≠ 0xFF48 ∧ b ≠ 0xFF49 ∧ b ≠ 0xFF4A →
      q.wx = p.wx := by intro; rfl) :
    ppuRegRead q b = ppuRegRead p b := by
  unfold ppuRegRead
  refine ite_rel (P := fun x y => x = y) lcdc fun h0 => ?_
  refine ite_rel (P := fun x y => x = y) stat fun h1 => ?_
  refine ite_rel (P := fun x y => x = y) scy fun h2 => ?_
  refine ite_rel (P := fun x y => x = y) scx fun h3 => ?_
  refine ite_rel (P := fun x y => x = y) ly fun h4 => ?_
  refine ite_rel (P := fun x y => x = y) lyc fun h5 => ?_
  refine ite_rel (P := fun x y => x = y) bgp fun h6 => ?_
  refine ite_rel (P := fun x y => x = y) obp0 fun h7 => ?_
  refine ite_rel (P := fun x y => x = y) obp1 fun h8 => ?_
  refine ite_rel (P := fun x y => x = y) wy fun h9 => ?_
  exact wx ⟨h0, h1, h2, h3, h4, h5, h6, h7, h8, h9⟩

/-- A write of a PPU register other than LCDC changes the read of no other PPU register. -/
theorem ppuRegRead_ppuRegWrite {b : Word} (ha : a ≠ 0xFF40) (hp : isPpuReg a = true) (hb : isPpuReg b = true)
    (hab : b ≠ a) : ppuRegRead (ppuRegWrite a v s).ppu b = ppuRegRead s.ppu b := by
  have inside : ∀ c : Word, isPpuReg c = true → c ≠ 0xFF40 → c ≠ 0xFF41 → c ≠ 0xFF42 → c ≠ 0xFF43 →
      c ≠ 0xFF44 → c ≠ 0xFF45 → c ≠ 0xFF47 → c ≠ 0xFF48 → c ≠ 0xFF49 → c ≠ 0xFF4A → c = 0xFF4B := by
    intro c hc h0 h1 h2 h3 h4 h5 h6 h7 h8 h9
    simp only [isPpuReg, Bool.or_eq_true, decide_eq_true_eq] at hc
    bv_omega
  unfold ppuRegWrite
  rw [if_neg ha]
  refine ite_cases (P := fun x => ppuRegRead (State.ppu x) b = _) (fun h => ?_) fun h1 => ?_
  · exact ppuRegRead_congr (stat := fun e => absurd (e.trans h.symm) hab)
  refine ite_cases (P := fun x => ppuRegRead (State.ppu x) b = _) (fun h => ?_) fun h2 => ?_
  · exact ppuRegRead_congr (scy := fun e => absurd (e.trans h.symm) hab)
  refine ite_cases (P := fun x => ppuRegRead (State.ppu x) b = _) (fun h => ?_) fun h3 => ?_
  · exact ppuRegRead_congr (scx := fun e => absurd (e.trans h.symm) hab)
  refine ite_cases (P := fun x => ppuRegRead (State.ppu x) b = _) (fun _ => rfl) fun h4 => ?_
  refine ite_cases (P := fun x => ppuRegRead (State.ppu x) b = _) (fun h => ?_) fun h5 => ?_
  · exact ppuRegRead_congr (lyc := fun e => absurd (e.trans h.symm) hab)
  refine ite_cases (P := fun x => ppuRegRead (State.ppu x) b = _) (fun h => ?_) fun h6 => ?_
  · exact ppuRegRead_congr (bgp := fun e => absurd (e.trans h.symm) hab)
  refine ite_cases (P := fun x => ppuRegRead (State.ppu x) b = _) (fun h => ?_) fun h7 => ?_
  · exact ppuRegRead_congr (obp0 := fun e => absurd (e.trans h.symm) hab)
  refine ite_cases (P := fun x => ppuRegRead (State.ppu x) b = _) (fun h => ?_) fun h8 => ?_
  · exact ppuRegRead_congr (obp1 := fun e => absurd (e.trans h.symm) hab)
  refine ite_cases (P := fun x => ppuRegRead (State.ppu x) b = _) (fun h => ?_) fun h9 => ?_
  · exact ppuRegRead_congr (wy := fun e => absurd (e.trans h.symm) hab)
  · refine ppuRegRead_congr (wx := fun ⟨e0, e1, e2, e3, e4, e5, e6, e7, e8, e9⟩ => absurd ?_ hab)
    rw [inside b hb e0 e1 e2 e3 e4 e5 e6 e7 e8 e9, inside a hp ha h1 h2 h3 h4 h5 h6 h7 h8 h9]

theorem timerRead_timerWrite {b : Word} (ha : 0xFF04 ≤ a.toNat ∧ a.toNat ≤ 0xFF07)
    (hb : 0xFF04 ≤ b.toNat ∧ b.toNat ≤ 0xFF07) (hab : b ≠ a) :
    timerRead (timerWrite s.timer a v) b = timerRead s.timer b := by
  have ha' : a = 0xFF04 ∨ a = 0xFF05 ∨ a = 0xFF06 ∨ a = 0xFF07 := by bv_omega
  have hb' : b = 0xFF04 ∨ b = 0xFF05 ∨ b = 0xFF06 ∨ b = 0xFF07 := by bv_omega
  rcases ha' with rfl | rfl | rfl | rfl <;> rcases hb' with rfl | rfl | rfl | rfl <;> first | rfl | exact absurd rfl hab

theorem and_low13 (w : Word) : (w &&& 0x1FFF).toNat = w.toNat % 0x2000 := by
  rw [BitVec.toNat_and]
  exact Nat.and_two_pow_sub_one_eq_mod w.toNat 13

/-- A write to external RAM changes the read of no other cartridge address. -/
theorem cartRead_cartWrite_ram {c : Cart} {b : Word} (ha : 0xA000 ≤ a.toNat ∧ a.toNat ≤ 0xBFFF)
    (hc : cartWrite s.cart a v = .ok c) (hab : b ≠ a) (hb : b.toNat ≤ 0x7FFF ∨ 0xA000 ≤ b.toNat ∧ b.toNat ≤ 0xBFFF) :
    cartRead c b = cartRead s.cart b := by
  have hne : b.toNat ≠ a.toNat := fun h => hab (BitVec.toNat_inj.1 h)
  revert hc
  unfold cartWrite
  rw [if_neg (by omega), if_neg (by omega), if_neg (by omega), if_neg (by omega)]
  refine ite_cases (P := fun x => x = Except.ok c → _) (fun _ h => by cases h; rfl) fun _ => ?_
  refine ite_cases (P := fun x => x = Except.ok c → _) (fun hi h => ?_) fun _ h => by cases h
  cases h
  unfold cartRead
  refine ite_rel (P := fun x y => x = y) (fun _ => rfl) fun h1 => ?_
  refine ite_rel (P := fun x y => x = y) (fun _ => rfl) fun h2 => ?_
  refine ite_rel (P := fun x y => x = y) (fun _ => rfl) fun h3 => ?_
  refine ite_rel (P := fun x y => x = y) (fun _ => congrArg Except.ok (Memory.read_write_other _ ?_ _)) fun _ => rfl
  show cramIndex s.cart b ≠ cramIndex s.cart a
  simp only [cramIndex, and_low13]
  omega

end Sys2Proof.Machine
end

