-- ==== Sys2Proof/Laws/Decode.lean ====
section
/-! SUPPORT. The little that decoding an encoded instruction needs beyond evaluation (30_encoding.md R120, R137). -/

namespace Sys2Proof

/-- The two bytes of a 16-bit immediate, the low one first, give it back. -/
@[simp] theorem imm16_split (nn : Word) : imm16 (nn.extractLsb' 0 8) (nn.extractLsb' 8 8) = nn := by
  unfold imm16
  ext i hi
  simp only [BitVec.getElem_append, BitVec.getElem_extractLsb']
  split
  · simp [BitVec.getLsbD_eq_getElem hi]
  · rw [show 8 + (i - 8) = i by omega, BitVec.getLsbD_eq_getElem hi]

/-- ... and the immediate made of two bytes splits into them. -/
@[simp] theorem imm16_low (b1 b2 : Byte) : (imm16 b1 b2).extractLsb' 0 8 = b1 := by
  unfold imm16
  ext i hi
  simp only [BitVec.getElem_extractLsb', BitVec.getLsbD_append, Nat.zero_add, hi, if_true]
  exact BitVec.getLsbD_eq_getElem hi

@[simp] theorem imm16_high (b1 b2 : Byte) : (imm16 b1 b2).extractLsb' 8 8 = b2 := by
  unfold imm16
  ext i hi
  simp only [BitVec.getElem_extractLsb', BitVec.getLsbD_append, show ¬8 + i < 8 by omega]
  rw [if_neg (by decide), Nat.add_sub_cancel_left]
  exact BitVec.getLsbD_eq_getElem hi

end Sys2Proof
end

