-- ==== Sys2Proof/Laws/Wf.lean ====
section
/-! SUPPORT. Every memory operation of the machine keeps the canonical form (10_state.md R48, R50, R51), and `State.reset`
has it. -/

namespace Sys2Proof.Machine

variable {s t : State} {a : Word} {v : Byte}

theorem State.reset_memoryWf : State.reset.MemoryWf := by
  constructor <;> exact ⟨List.Pairwise.nil, by simp [State.reset]⟩

theorem lineColours_length (p : Ppu) (y n x : Nat) (win : Bool) : (lineColours p y n x win).length = n := by
  induction n generalizing x win with
  | zero => rfl
  | succ n ih => simp [lineColours, ih]

theorem lineShades_length (p : Ppu) (y : Nat) : (lineShades p y).length = 160 := by
  unfold lineShades
  split
  · rw [List.length_map, lineColours_length]
  · exact List.length_replicate

theorem linePriority_length (p : Ppu) (y : Nat) : (linePriority p y).length = 160 := by
  unfold linePriority
  split
  · rw [List.length_map, lineColours_length]
  · exact List.length_replicate

/-- The renderer writes the framebuffer and the priority tags only (R440 to R445). -/
theorem renderScanline_eq (p : Ppu) :
    renderScanline p = { p with fb := (renderScanline p).fb, bgpri := (renderScanline p).bgpri } := by
  unfold renderScanline
  split <;> rfl

theorem renderScanline_fb_wf {p : Ppu} (h : Sparse.wf p.fbInit (160 * 144) p.fb) :
    Sparse.wf p.fbInit (160 * 144) (renderScanline p).fb := by
  unfold renderScanline
  split
  · exact Sparse.putRange_wf h _ _ (by rw [lineShades_length]; omega)
  · exact h

theorem renderScanline_bgpri_wf {p : Ppu} (h : Sparse.wf false (160 * 144) p.bgpri) :
    Sparse.wf false (160 * 144) (renderScanline p).bgpri := by
  unfold renderScanline
  split
  · exact Sparse.putRange_wf h _ _ (by rw [linePriority_length]; omega)
  · exact h

/-- The canonical form of the memories a PPU holds. -/
structure Ppu.MemoryWf (p : Ppu) : Prop where
  vram : Memory.wf 0x2000 p.vram
  oam : Memory.wf 160 p.oam
  fb : Sparse.wf p.fbInit (160 * 144) p.fb
  bgpri : Sparse.wf false (160 * 144) p.bgpri

theorem State.MemoryWf.ppu (h : s.MemoryWf) : s.ppu.MemoryWf := ⟨h.vram, h.oam, h.fb, h.bgpri⟩

/-- A PPU in canonical form may take the place of the state's. -/
theorem State.MemoryWf.withPpu (h : s.MemoryWf) {p : Ppu} (hp : p.MemoryWf) {i : Byte} :
    State.MemoryWf { s with ppu := p, ifr := i } :=
  ⟨h.wram, h.hram, hp.vram, hp.oam, h.cram, h.rom, hp.fb, hp.bgpri⟩

theorem Ppu.MemoryWf.render {p : Ppu} (h : p.MemoryWf) : (renderScanline p).MemoryWf := by
  have e := renderScanline_eq p
  refine ⟨?_, ?_, ?_, renderScanline_bgpri_wf h.bgpri⟩
  · rw [e]; exact h.vram
  · rw [e]; exact h.oam
  · have := renderScanline_fb_wf h.fb
    rw [show (renderScanline p).fbInit = p.fbInit from by rw [e]]
    exact this

theorem enterMode_wf (h : s.MemoryWf) (m : PpuMode) : (enterMode m s).MemoryWf := by
  rw [enterMode_eq]
  have h' : Ppu.MemoryWf { s.ppu with mode := m } := ⟨h.vram, h.oam, h.fb, h.bgpri⟩
  refine h.withPpu ?_
  split
  · exact h'.render
  · exact h'

theorem lcdcWrite_wf (h : s.MemoryWf) (v : Byte) : (lcdcWrite v s).MemoryWf := by
  rw [lcdcWrite_eq]
  split
  · exact ⟨h.wram, h.hram, h.vram, h.oam, h.cram, h.rom, h.fb, h.bgpri⟩
  · exact ⟨h.wram, h.hram, h.vram, h.oam, h.cram, h.rom, h.fb, h.bgpri⟩

theorem busCartWrite_ok (h : busCartWrite s a v = .ok t) :
    ∃ c, cartWrite s.cart a v = .ok c ∧ t = { s with cart := c } := by
  unfold busCartWrite at h
  split at h
  · rename_i c hc
    cases h
    exact ⟨c, hc, rfl⟩
  · cases h

/-- A cartridge write leaves the image and the sizes alone, and the external RAM canonical (R88 to R92). -/
theorem cartWrite_wf {c d : Cart} (h : cartWrite c a v = .ok d) (hw : Memory.wf c.cramSize c.cram) :
    d.rom = c.rom ∧ d.nbanks = c.nbanks ∧ d.cramSize = c.cramSize ∧ Memory.wf d.cramSize d.cram := by
  revert h
  unfold cartWrite
  refine ite_cases (P := fun x => x = Except.ok d → _) (fun _ h => by cases h; exact ⟨rfl, rfl, rfl, hw⟩) fun _ => ?_
  refine ite_cases (P := fun x => x = Except.ok d → _) (fun _ h => by cases h; exact ⟨rfl, rfl, rfl, hw⟩) fun _ => ?_
  refine ite_cases (P := fun x => x = Except.ok d → _) (fun _ h => by cases h; exact ⟨rfl, rfl, rfl, hw⟩) fun _ => ?_
  refine ite_cases (P := fun x => x = Except.ok d → _) (fun _ h => by cases h; exact ⟨rfl, rfl, rfl, hw⟩) fun _ => ?_
  refine ite_cases (P := fun x => x = Except.ok d → _) (fun _ h => by cases h; exact ⟨rfl, rfl, rfl, hw⟩) fun _ => ?_
  refine ite_cases (P := fun x => x = Except.ok d → _) (fun hi h => ?_) fun _ h => by cases h
  cases h
  exact ⟨rfl, rfl, rfl, Memory.write_wf hw hi v⟩

/-- Every bus write keeps every memory canonical. -/
theorem busStore_wf (h : busStore s a v = .ok t) (hw : s.MemoryWf) : t.MemoryWf := by
  revert h
  refine busStore_cases (P := fun x => x = .ok t → _) ?_ ?_ ?_ ?_ ?_ ?_ ?_ ?_ ?_ ?_ ?_ ?_
  · intro _ h
    obtain ⟨c, hc, rfl⟩ := busCartWrite_ok h
    obtain ⟨e1, e2, e3, e4⟩ := cartWrite_wf hc hw.cram
    exact ⟨hw.wram, hw.hram, hw.vram, hw.oam, e4, by rw [e1]; exact hw.rom, hw.fb, hw.bgpri⟩
  · intro ha h
    cases h
    unfold vramWrite
    refine ite_cases (P := fun p => State.MemoryWf { s with ppu := p }) (fun _ => hw) fun _ => ?_
    exact ⟨hw.wram, hw.hram, Memory.write_wf hw.vram (by omega) v, hw.oam, hw.cram, hw.rom, hw.fb, hw.bgpri⟩
  · intro ha h
    cases h
    exact ⟨Memory.write_wf hw.wram (by rw [and_low13]; omega) v, hw.hram, hw.vram, hw.oam, hw.cram, hw.rom, hw.fb, hw.bgpri⟩
  · intro ha h
    cases h
    unfold oamWrite
    refine ite_cases (P := fun p => State.MemoryWf { s with ppu := p }) (fun _ => ?_) fun _ => hw
    exact ⟨hw.wram, hw.hram, hw.vram, Memory.write_wf hw.oam (by omega) v, hw.cram, hw.rom, hw.fb, hw.bgpri⟩
  · intro _ h; cases h; exact ⟨hw.wram, hw.hram, hw.vram, hw.oam, hw.cram, hw.rom, hw.fb, hw.bgpri⟩
  · intro _ h; cases h; exact ⟨hw.wram, hw.hram, hw.vram, hw.oam, hw.cram, hw.rom, hw.fb, hw.bgpri⟩
  · intro _ h; cases h; exact ⟨hw.wram, hw.hram, hw.vram, hw.oam, hw.cram, hw.rom, hw.fb, hw.bgpri⟩
  · intro _ h; cases h; exact ⟨hw.wram, hw.hram, hw.vram, hw.oam, hw.cram, hw.rom, hw.fb, hw.bgpri⟩
  · intro _ h
    cases h
    by_cases h40 : a = 0xFF40
    · subst h40
      exact lcdcWrite_wf hw v
    · obtain ⟨p, hp, hq⟩ := ppuRegWrite_plain (s := s) (v := v) h40
      rw [hp, hq]
      exact ⟨hw.wram, hw.hram, hw.vram, hw.oam, hw.cram, hw.rom, hw.fb, hw.bgpri⟩
  · intro ha h
    cases h
    exact ⟨hw.wram, Memory.write_wf hw.hram (by omega) v, hw.vram, hw.oam, hw.cram, hw.rom, hw.fb, hw.bgpri⟩
  · intro _ h; cases h; exact ⟨hw.wram, hw.hram, hw.vram, hw.oam, hw.cram, hw.rom, hw.fb, hw.bgpri⟩
  · intro h; cases h; exact hw

end Sys2Proof.Machine
end

