-- ==== Sys2Proof/Laws/Dma.lean ====
section
/-! SUPPORT. What OAM-DMA can do (20_memory.md R81, R82): how far a copy gets, what it leaves in OAM, and what it costs. -/

namespace Sys2Proof.Machine

variable {s : State}

/-- The state with another OAM. -/
def State.withOam (s : State) (m : Memory) : State := { s with ppu := { s.ppu with oam := m } }

theorem busRead_withOam (m : Memory) {a : Word} (h : a.toNat < 0xFE00) : busRead (s.withOam m) a = busRead s a :=
  busRead_congr (oam := fun h' => absurd h'.1 (by omega)) (joyp := fun e => absurd h (by rw [e]; decide))

/-- The address of byte i of a source page. -/
theorem dmaSource_toNat {page : Byte} {i : Nat} (hi : i < 160) :
    (word16 page 0 + BitVec.ofNat 16 i).toNat = 256 * page.toNat + i := by
  have : (word16 page 0).toNat = 256 * page.toNat := by
    unfold word16
    rw [BitVec.toNat_append]
    show page.toNat <<< 8 ||| 0 = _
    rw [Nat.or_zero, Nat.shiftLeft_eq, Nat.mul_comm]
  rw [BitVec.toNat_add, this, BitVec.toNat_ofNat]
  omega

theorem oamAddress_toNat {i : Nat} (hi : i < 160) : ((0xFE00 : Word) + BitVec.ofNat 16 i).toNat = 0xFE00 + i := by
  rw [BitVec.toNat_add, BitVec.toNat_ofNat]
  show (0xFE00 + i % 2 ^ 16) % 2 ^ 16 = _
  omega

theorem busStore_oam (s : State) {i : Nat} (hi : i < 160) (v : Byte) : busStore s (0xFE00 + BitVec.ofNat 16 i) v =
    .ok (s.withOam (if s.ppu.oamOpen then s.ppu.oam.write i v else s.ppu.oam)) := by
  have e := oamAddress_toNat hi
  unfold busStore
  rw [e, if_neg (by omega), if_neg (by omega), if_neg (by omega), if_neg (by omega), if_pos (by omega)]
  unfold oamWrite State.withOam
  rw [e, Nat.add_sub_cancel_left]
  cases s.ppu.oamOpen <;> rfl

/-- What the OAM holds after the bytes i to i + n - 1 of a copy: nothing new where OAM is closed, and where it is open the
bytes read, everything outside them unchanged. -/
structure DmaOam (page : Byte) (n i : Nat) (s : State) (m : Memory) : Prop where
  closed : s.ppu.oamOpen = false → m = s.ppu.oam
  wf : s.ppu.oamOpen = true → Memory.wf 160 m
  copied : s.ppu.oamOpen = true → ∀ j, i ≤ j → j < i + n →
    busRead s (word16 page 0 + BitVec.ofNat 16 j) = .ok (m.read j)
  others : ∀ j, j < i ∨ i + n ≤ j → m.read j = s.ppu.oam.read j

/-- One more byte in front. -/
theorem DmaOam.cons {page : Byte} {n i : Nat} {m : Memory} {v : Byte} {c : Nat} (hp : page.toNat ≤ 0xDF) (hi : i < 160)
    (hn : i + n < 160)
    (hw : Memory.wf 160 s.ppu.oam) (hv : busRead s (word16 page 0 + BitVec.ofNat 16 i) = .ok v)
    (h : DmaOam page n (i + 1)
      ((s.withOam (if s.ppu.oamOpen then s.ppu.oam.write i v else s.ppu.oam)).charge c) m) : DmaOam page (n + 1) i s m := by
  obtain ⟨h1, h2, h3, h4⟩ := h
  have hopen : ∀ m', ((s.withOam m').charge c).ppu.oamOpen = s.ppu.oamOpen := fun _ => rfl
  have hoam : ∀ m', ((s.withOam m').charge c).ppu.oam = m' := fun _ => rfl
  rw [hopen] at h1 h2 h3
  simp only [hoam] at h1 h4
  refine ⟨fun hc => ?_, h2, fun ho j hj hj' => ?_, fun j hj => ?_⟩
  · have := h1 hc
    rwa [hc] at this
  · by_cases e : j = i
    · subst e
      rw [hv, h4 j (by omega), if_pos ho, Memory.read_write_self hw]
    · have := h3 ho j (by omega) (by omega)
      rw [busRead_charge, busRead_withOam _ (by rw [dmaSource_toNat (by omega)]; omega)] at this
      exact this
  · rw [h4 j (by omega)]
    split
    · exact Memory.read_write_other _ (by omega) _
    · rfl

/-- A copy every byte of which can be read: it costs 8 cycles a byte and changes OAM alone. -/
theorem oamDmaFrom_ok {page : Byte} (hp : page.toNat ≤ 0xDF) (n i : Nat) (hn : i + n ≤ 160) (s : State)
    (hw : Memory.wf 160 s.ppu.oam)
    (hr : ∀ j, i ≤ j → j < i + n → ∃ v, busRead s (word16 page 0 + BitVec.ofNat 16 j) = .ok v) :
    ∃ m, oamDmaFrom page n i s = .ok () ((s.withOam m).charge (8 * n)) ∧ DmaOam page n i s m := by
  induction n generalizing i s with
  | zero => exact ⟨s.ppu.oam, rfl, fun _ => rfl, fun _ => hw, fun _ j hj hj' => absurd hj (by omega), fun _ _ => rfl⟩
  | succ n ih =>
    obtain ⟨v, hv⟩ := hr i (by omega) (by omega)
    have hst := busStore_oam ((s.charge 4).charge 4) (i := i) (by omega) v
    have hlow : ∀ j, j < 160 → (word16 page 0 + BitVec.ofNat 16 j).toNat < 0xFE00 := fun j hj => by
      rw [dmaSource_toNat hj]; omega
    rw [oamDmaFrom_succ hv hst]
    obtain ⟨m, hm, hd⟩ := ih (i + 1) (by omega)
      ((s.withOam (if s.ppu.oamOpen then s.ppu.oam.write i v else s.ppu.oam)).charge 8) (by
        show Memory.wf 160 (if s.ppu.oamOpen then s.ppu.oam.write i v else s.ppu.oam)
        split
        · exact Memory.write_wf hw (by omega) v
        · exact hw)
      (fun j hj hj' => by
        rw [busRead_charge, busRead_withOam _ (hlow j (by omega))]
        exact hr j (by omega) (by omega))
    refine ⟨m, ?_, hd.cons hp (by omega) (by omega) hw hv⟩
    refine Eq.trans hm ?_
    simp only [State.withOam, State.charge]
    congr 2
    omega

/-- A copy whose byte i + k cannot be read: the bytes before it are copied (R401). -/
theorem oamDmaFrom_fault {page : Byte} (hp : page.toNat ≤ 0xDF) {f : Fault} (k n i : Nat) (hk : k < n) (hn : i + n ≤ 160)
    (s : State) (hw : Memory.wf 160 s.ppu.oam)
    (hr : ∀ j, i ≤ j → j < i + k → ∃ v, busRead s (word16 page 0 + BitVec.ofNat 16 j) = .ok v)
    (hf : busRead s (word16 page 0 + BitVec.ofNat 16 (i + k)) = .error f) :
    ∃ m, oamDmaFrom page n i s = .error f ((s.withOam m).charge (8 * k + 4)) ∧ DmaOam page k i s m := by
  induction k generalizing i n s with
  | zero =>
    obtain ⟨n, rfl⟩ : ∃ n', n = n' + 1 := ⟨n - 1, by omega⟩
    exact ⟨s.ppu.oam, oamDmaFrom_error hf, fun _ => rfl, fun _ => hw, fun _ j hj hj' => absurd hj (by omega), fun _ _ => rfl⟩
  | succ k ih =>
    obtain ⟨n, rfl⟩ : ∃ n', n = n' + 1 := ⟨n - 1, by omega⟩
    obtain ⟨v, hv⟩ := hr i (by omega) (by omega)
    have hst := busStore_oam ((s.charge 4).charge 4) (i := i) (by omega) v
    have hlow : ∀ j, j < 160 → (word16 page 0 + BitVec.ofNat 16 j).toNat < 0xFE00 := fun j hj => by
      rw [dmaSource_toNat hj]; omega
    rw [oamDmaFrom_succ hv hst]
    obtain ⟨m, hm, hd⟩ := ih n (i + 1) (by omega) (by omega)
      ((s.withOam (if s.ppu.oamOpen then s.ppu.oam.write i v else s.ppu.oam)).charge 8) (by
        show Memory.wf 160 (if s.ppu.oamOpen then s.ppu.oam.write i v else s.ppu.oam)
        split
        · exact Memory.write_wf hw (by omega) v
        · exact hw)
      (fun j hj hj' => by
        rw [busRead_charge, busRead_withOam _ (hlow j (by omega))]
        exact hr j (by omega) (by omega))
      (by
        rw [busRead_charge, busRead_withOam _ (hlow _ (by omega)), show i + 1 + k = i + (k + 1) from by omega]
        exact hf)
    refine ⟨m, ?_, hd.cons hp (by omega) (by omega) hw hv⟩
    refine Eq.trans hm ?_
    simp only [State.withOam, State.charge]
    congr 2
    omega

end Sys2Proof.Machine
end

