-- ==== Sys2Proof/Laws/Flags.lean ====
section
/-! SUPPORT. Each result-and-flags computation of Machine/Flags.lean as arithmetic on numbers (41_alu.md, 43_cb_prefix.md). -/

namespace Sys2Proof.Machine

theorem lowNibble_toNat (v : Byte) : lowNibble v = v.toNat % 16 := by
  rw [lowNibble, BitVec.toNat_and]
  exact Nat.and_two_pow_sub_one_eq_mod v.toNat 4

theorem toNat_and_low (w : Word) (k : Nat) (hk : k ≤ 16) :
    (w &&& BitVec.ofNat 16 (2 ^ k - 1)).toNat = w.toNat % 2 ^ k := by
  have h : (2 ^ k - 1) % 2 ^ 16 = 2 ^ k - 1 := Nat.mod_eq_of_lt (by
    have : 2 ^ k ≤ 2 ^ 16 := Nat.pow_le_pow_right (by omega) hk
    have := Nat.two_pow_pos k
    omega)
  rw [BitVec.toNat_and, BitVec.toNat_ofNat, h, Nat.and_two_pow_sub_one_eq_mod]

/-- Adding a sign-extended byte is adding its signed value modulo 2^16 (00_scope.md R8). -/
theorem add_sext16 (w : Word) (e : Byte) : w + sext16 e = BitVec.ofInt 16 (w.toNat + e.toInt) := by
  apply BitVec.eq_of_toNat_eq
  have hw := w.isLt
  have he := e.isLt
  rw [BitVec.toNat_add, sext16, BitVec.toNat_signExtend, BitVec.toNat_ofInt, BitVec.toInt_eq_msb_cond,
    BitVec.toNat_setWidth]
  cases e.msb <;> simp <;> omega

theorem addWith_spec (a s : Byte) (c : Bool) :
    (addWith a s c).1.toNat = (a.toNat + s.toNat + c.toNat) % 256 ∧
    ((addWith a s c).2.z = true ↔ (addWith a s c).1 = 0) ∧ (addWith a s c).2.n = false ∧
    ((addWith a s c).2.h = true ↔ a.toNat % 16 + s.toNat % 16 + c.toNat > 15) ∧
    ((addWith a s c).2.c = true ↔ a.toNat + s.toNat + c.toNat > 255) := by
  refine ⟨rfl, ?_, rfl, ?_, ?_⟩
  · simp [addWith, ← BitVec.toNat_inj]
  · simp [addWith, lowNibble_toNat]
  · simp [addWith]

theorem subWith_spec (a s : Byte) (c : Bool) :
    (subWith a s c).1.toNat = (a.toNat + 512 - s.toNat - c.toNat) % 256 ∧
    ((subWith a s c).2.z = true ↔ (subWith a s c).1 = 0) ∧ (subWith a s c).2.n = true ∧
    ((subWith a s c).2.h = true ↔ a.toNat % 16 < s.toNat % 16 + c.toNat) ∧
    ((subWith a s c).2.c = true ↔ a.toNat < s.toNat + c.toNat) := by
  have ha := a.isLt
  have hs := s.isLt
  have hc : c.toNat ≤ 1 := by cases c <;> decide
  refine ⟨?_, ?_, rfl, ?_, ?_⟩
  · simp only [subWith, BitVec.toNat_ofInt]
    omega
  · simp only [subWith, ← BitVec.toNat_inj, BitVec.toNat_ofInt, decide_eq_true_eq]
    simp
    omega
  · simp [subWith, lowNibble_toNat]
  · simp [subWith]

theorem logicFlags_spec (r : Byte) (h : Bool) :
    ((logicFlags r h).z = true ↔ r = 0) ∧ (logicFlags r h).n = false ∧ (logicFlags r h).h = h ∧
    (logicFlags r h).c = false := by simp [logicFlags]

theorem inc8_spec (g : Flags) (v : Byte) :
    (inc8 v).toNat = (v.toNat + 1) % 256 ∧ ((incFlags g v).z = true ↔ inc8 v = 0) ∧ (incFlags g v).n = false ∧
    ((incFlags g v).h = true ↔ v.toNat % 16 = 15) ∧ (incFlags g v).c = g.c := by
  refine ⟨rfl, by rw [incFlags, decide_eq_true_eq], rfl, by simp [incFlags, lowNibble_toNat], rfl⟩

theorem dec8_spec (g : Flags) (v : Byte) :
    (dec8 v).toNat = (v.toNat + 255) % 256 ∧ ((decFlags g v).z = true ↔ dec8 v = 0) ∧ (decFlags g v).n = true ∧
    ((decFlags g v).h = true ↔ v.toNat % 16 = 0) ∧ (decFlags g v).c = g.c := by
  refine ⟨?_, by rw [decFlags, decide_eq_true_eq], rfl, by simp [decFlags, lowNibble_toNat], rfl⟩
  simp only [dec8, BitVec.toNat_ofInt]
  omega

theorem add16_spec (g : Flags) (hl v : Word) :
    (add16 g hl v).1 = BitVec.ofNat 16 (hl.toNat + v.toNat) ∧ (add16 g hl v).2.z = g.z ∧ (add16 g hl v).2.n = false ∧
    ((add16 g hl v).2.h = true ↔ hl.toNat % 4096 + v.toNat % 4096 > 4095) ∧
    ((add16 g hl v).2.c = true ↔ hl.toNat + v.toNat > 65535) := by
  have h (w : Word) : (w &&& 0x0FFF).toNat = w.toNat % 4096 := toNat_and_low w 12 (by omega)
  refine ⟨rfl, rfl, rfl, ?_, ?_⟩
  · simp only [add16, h, decide_eq_true_eq]
  · simp only [add16, decide_eq_true_eq]

theorem addSpE_spec (sp : Word) (u : Byte) :
    (addSpE sp u).1 = BitVec.ofInt 16 (sp.toNat + u.toInt) ∧ (addSpE sp u).2.z = false ∧ (addSpE sp u).2.n = false ∧
    ((addSpE sp u).2.h = true ↔ sp.toNat % 16 + u.toNat % 16 > 15) ∧
    ((addSpE sp u).2.c = true ↔ sp.toNat % 256 + u.toNat > 255) := by
  have h1 : (sp &&& 0x0F).toNat = sp.toNat % 16 := toNat_and_low sp 4 (by omega)
  have h2 : (sp &&& 0xFF).toNat = sp.toNat % 256 := toNat_and_low sp 8 (by omega)
  refine ⟨add_sext16 sp u, rfl, rfl, ?_, ?_⟩
  · simp only [addSpE, h1, lowNibble_toNat, decide_eq_true_eq]
  · simp only [addSpE, h2, decide_eq_true_eq]

/-- The high correction of DAA applies (R247). -/
def daaHigh (a : Byte) (g : Flags) : Prop := g.c = true ∨ (g.n = false ∧ a.toNat > 0x99)

/-- The low correction of DAA applies (R247). -/
def daaLow (a : Byte) (g : Flags) : Prop := g.h = true ∨ (g.n = false ∧ a.toNat % 16 > 9)

theorem daa_spec (a : Byte) (g : Flags) :
    (∃ x y : Nat, (daaHigh a g → x = 0x60) ∧ (¬daaHigh a g → x = 0) ∧ (daaLow a g → y = 0x06) ∧
      (¬daaLow a g → y = 0) ∧
      (daa a g).1.toNat = if g.n then (a.toNat + 256 - x - y) % 256 else (a.toNat + x + y) % 256) ∧
    ((daa a g).2.z = true ↔ (daa a g).1 = 0) ∧ (daa a g).2.n = g.n ∧ (daa a g).2.h = false ∧
    ((daa a g).2.c = true ↔ daaHigh a g) := by
  have ha := a.isLt
  have hh : ((g.c || (!g.n && decide (a.toNat > 0x99))) = true) = daaHigh a g := by
    simp [daaHigh]
  have hl : ((g.h || (!g.n && decide (lowNibble a > 0x09))) = true) = daaLow a g := by
    simp [daaLow, lowNibble_toNat]
  refine ⟨⟨if (g.c || (!g.n && decide (a.toNat > 0x99))) then 0x60 else 0,
    if (g.h || (!g.n && decide (lowNibble a > 0x09))) then 0x06 else 0, ?_, ?_, ?_, ?_, ?_⟩, ?_, rfl, rfl, ?_⟩
  · intro h; rw [if_pos (hh ▸ h)]
  · intro h; rw [if_neg (hh ▸ h)]
  · intro h; rw [if_pos (hl ▸ h)]
  · intro h; rw [if_neg (hl ▸ h)]
  · simp only [daa, BitVec.toNat_ofInt]
    cases g.n <;> split_ifs <;> simp <;> omega
  · simp [daa]
  · rw [← hh]; rfl

/-- The result and the carry of each rotate and shift as numbers (R291 to R298). -/
theorem rotApply_spec (op : RotOp) (v : Byte) (c : Bool) :
    (rotApply op v c).1.toNat = (match op with
      | .rlc => v.toNat * 2 % 256 + v.toNat / 128
      | .rrc => v.toNat / 2 + 128 * (v.toNat % 2)
      | .rl => v.toNat * 2 % 256 + c.toNat
      | .rr => v.toNat / 2 + 128 * c.toNat
      | .sla => v.toNat * 2 % 256
      | .sra => v.toNat / 2 + 128 * (v.toNat / 128)
      | .swap => 16 * (v.toNat % 16) + v.toNat / 16
      | .srl => v.toNat / 2) ∧
    ((rotApply op v c).2 = true ↔ match op with
      | .rlc | .rl | .sla => 128 ≤ v.toNat
      | .swap => False
      | _ => v.toNat % 2 = 1) := by
  cases op <;> revert v c <;> decide

end Sys2Proof.Machine
end

