-- ==== Sys2Proof/Laws/Frame.lean ====
section
/-! SUPPORT. The frame of a bus write, in the vocabulary of the statements (Spec.Touches). -/

namespace Sys2Proof.Machine

open Sys2Proof.Spec

/-- A write below 0x8000 changes the latches of its range only (R88 to R91). -/
theorem cartWrite_latch {s : State} {a : Word} {v : Byte} {c : Cart} (ha : a.toNat ≤ 0x7FFF) (h : cartWrite s.cart a v = .ok c) :
    c = { s.cart with ramen := c.ramen, lo := c.lo, hi := c.hi, bmode := c.bmode } ∧
    (a.toNat ≤ 0x1FFF → c = { s.cart with ramen := c.ramen }) ∧ (Within 0x2000 0x3FFF a → c = {s.cart with lo := c.lo}) := by
  revert h
  unfold cartWrite
  refine ite_cases (P := fun x => x = Except.ok c → _) (fun h1 h => ?_) fun h1 => ?_
  · cases h; exact ⟨rfl, fun _ => rfl, fun h => absurd h.1 (by omega)⟩
  refine ite_cases (P := fun x => x = Except.ok c → _) (fun h2 h => ?_) fun h2 => ?_
  · cases h; exact ⟨rfl, fun h => absurd h (by omega), fun _ => rfl⟩
  refine ite_cases (P := fun x => x = Except.ok c → _) (fun h3 h => ?_) fun h3 => ?_
  · cases h; exact ⟨rfl, fun h => absurd h (by omega), fun h => absurd h.2 (by omega)⟩
  refine ite_cases (P := fun x => x = Except.ok c → _) (fun h4 h => ?_) fun h4 => ?_
  · cases h; exact ⟨rfl, fun h => absurd h (by omega), fun h => absurd h.2 (by omega)⟩
  omega

/-- A cartridge read depends on the image, the external RAM and the latches of its own window (R85 to R87). -/
theorem cartRead_congr {c d : Cart} {b : Word} (h0 : d.rom = c.rom ∧ d.cram = c.cram ∧ d.cramSize = c.cramSize)
   (h1 : Within 0x4000 0x7FFF b → effBank d = effBank c)
   (h2 : Within 0xA000 0xBFFF b → d.ramen = c.ramen ∧ d.hi = c.hi ∧ d.bmode = c.bmode) (hb : b.toNat ≤ 0x7FFF ∨ Within 0xA000 0xBFFF b) : cartRead d b = cartRead c b := by
  obtain ⟨e1, e2, e3⟩ := h0
  unfold cartRead romByte
  rw [e1]
  refine ite_rel (P := fun x y => x = y) (fun _ => rfl) fun k1 => ?_
  refine ite_rel (P := fun x y => x = y) (fun k2 => ?_) fun k2 => ?_
  · rw [h1 ⟨by omega, k2⟩]
  · have hb' : Within 0xA000 0xBFFF b := by rcases hb with h | h; omega; exact h
    obtain ⟨f1, f2, f3⟩ := h2 hb'
    unfold cramIndex
    rw [f1, f2, f3, e2, e3]

theorem isPpuReg_range {a : Word} (h : isPpuReg a = true) : 0xFF40 ≤ a.toNat ∧ a.toNat ≤ 0xFF4B ∧ a ≠ 0xFF46 := by
  simp only [isPpuReg, Bool.or_eq_true, decide_eq_true_eq] at h
  refine ⟨by omega, by omega, ?_⟩
  rintro rfl; simp at h

/-- A bus write changes no read but those it touches. -/
theorem busStore_frame {s t : State} {a v} (h : busStore s a v = .ok t) (b : Word) (hb : ¬ Touches s a v b) : busRead t b = busRead s b := by
  simp only [Touches, not_or] at hb
  obtain ⟨n1, n2, n3, n4, n5, -⟩ := hb
  have hne : 0x8000 ≤ a.toNat → b.toNat ≠ a.toNat := fun h e => n1 ⟨h, BitVec.toNat_inj.1 e⟩
  have hne' : 0x8000 ≤ a.toNat → b ≠ a := fun h e => n1 ⟨h, e⟩
  revert h
  refine busStore_cases (P := fun x => x = .ok t → _) ?_ ?_ ?_ ?_ ?_ ?_ ?_ ?_ ?_ ?_ ?_ ?_
  · intro ha h
    obtain ⟨c, hc, rfl⟩ := busCartWrite_ok h
    refine busRead_congr (cart := fun hb => ?_)
    rcases ha with ha | ha
    · obtain ⟨l1, l2, l3⟩ := cartWrite_latch ha hc
      show cartRead c b = _
      by_cases r1 : a.toNat ≤ 0x1FFF
      · rw [l2 r1]
        refine cartRead_congr ⟨rfl, rfl, rfl⟩ (fun _ => rfl) (fun h => absurd ⟨r1, h⟩ n2) hb
      by_cases r2 : a.toNat ≤ 0x3FFF
      · rw [l3 ⟨by omega, r2⟩]
        exact cartRead_congr ⟨rfl, rfl, rfl⟩ (fun h => absurd ⟨⟨by omega, r2⟩, h⟩ n3) (fun h => ⟨rfl, rfl, rfl⟩) hb
      · rw [l1]
        exact cartRead_congr ⟨rfl, rfl, rfl⟩ (fun h => absurd ⟨⟨by omega, ha⟩, .inl h⟩ n4) (fun h => absurd ⟨⟨by omega, ha⟩, .inr h⟩ n4) hb
    · exact cartRead_cartWrite_ram ha hc (hne' (by omega)) hb
  · intro ha h; cases h
    refine busRead_congr (vram := fun hb => ?_) (oam := fun _ => ?_) (ppu := fun _ => ?_)
    · unfold vramWrite
      refine ite_cases (P := fun x => vramRead x b = _) (fun _ => rfl) fun hm => ?_
      unfold vramRead
      refine ite_rel (P := fun x y => x = y) (fun _ => rfl) fun _ => Memory.read_write_other _ ?_ _
      have := hne (by omega); omega
    · unfold vramWrite; exact ite_cases (P := fun x => oamRead x b = _) (fun _ => rfl) fun hm => rfl
    · unfold vramWrite; exact ite_cases (P := fun x => ppuRegRead x b = _) (fun _ => rfl) fun hm => rfl
  · intro ha h; cases h
    refine busRead_congr (wram := fun hb => ?_)
    refine Memory.read_write_other _ ?_ _
    rw [and_low13, and_low13]; have := hne (by omega); omega
  · intro ha h; cases h
    refine busRead_congr (vram := fun hb => ?_) (oam := fun hb => ?_) (ppu := fun _ => ?_)
    · unfold oamWrite; exact ite_cases (P := fun x => vramRead x b = _) (fun _ => rfl) fun hm => rfl
    · unfold oamWrite
      refine ite_cases (P := fun x => oamRead x b = _) (fun hm => ?_) fun hm => rfl
      unfold oamRead
      refine ite_rel (P := fun x y => x = y) (fun _ => Memory.read_write_other _ ?_ _) fun _ => rfl
      have := hne (by omega); omega
    · unfold oamWrite; exact ite_cases (P := fun x => ppuRegRead x b = _) (fun _ => rfl) fun hm => rfl
  · intro ha h; cases h
    exact busRead_congr (joyp := fun e => absurd (e.trans ha.symm) (hne' (by bv_omega)))
  · intro ha h; cases h; rfl
  · intro ha h; cases h
    exact busRead_congr (timer := fun hb => timerRead_timerWrite ha hb (hne' (by omega)))
  · intro ha h; cases h
    exact busRead_congr (ifr := fun e => absurd (e.trans ha.symm) (hne' (by bv_omega)))
  · intro ha h; cases h
    have hr := isPpuReg_range ha
    by_cases h40 : a = 0xFF40
    · subst h40
      show busRead (lcdcWrite v s) b = _
      rw [lcdcWrite_eq]
      refine ite_cases (P := fun x => busRead x b = _) (fun _ => ?_) fun hd => ?_
      · refine busRead_congr (ppu := fun _ => ?_)
        exact ppuRegRead_congr (lcdc := fun e => absurd e (hne' (by decide)))
      · have n5' := fun h => n5 ⟨rfl, hd, h⟩
        refine busRead_congr (vram := fun hb => (n5' (.inr (.inr (.inr (.inl hb))))).elim)
          (oam := fun hb => (n5' (.inr (.inr (.inr (.inr hb))))).elim)
          (ifr := fun hb => (n5' (.inr (.inr (.inl hb)))).elim) (ppu := fun _ => ?_)
        exact ppuRegRead_congr (lcdc := fun e => absurd e (hne' (by decide)))
          (stat := fun e => (n5' (.inl e)).elim) (ly := fun e => (n5' (.inr (.inl e))).elim)
    · obtain ⟨p, hp, hq⟩ := ppuRegWrite_plain (s := s) (v := v) h40
      have hq1 : p.mode = s.ppu.mode := by rw [hq]
      have hq2 : p.vram = s.ppu.vram := by rw [hq]
      have hq3 : p.oam = s.ppu.oam := by rw [hq]
      have key : ∀ (hb : isPpuReg b = true), ppuRegRead p b = ppuRegRead s.ppu b := fun hb => by
        have := ppuRegRead_ppuRegWrite (s := s) (v := v) h40 ha hb (hne' (by omega)); rwa [hp] at this
      rw [hp]
      refine busRead_congr (vram := fun hb => ?_) (oam := fun hb => ?_) (ppu := key)
      · simp only [vramRead, hq1, hq2]
      · have ho : p.oamOpen = s.ppu.oamOpen := by unfold Ppu.oamOpen; rw [hq1]
        show oamRead p b = _
        unfold oamRead; rw [ho, hq3]
  · intro ha h; cases h
    refine busRead_congr (hram := fun hb => Memory.read_write_other _ ?_ _)
    have := hne (by omega); omega
  · intro ha h; cases h
    exact busRead_congr (ie := fun e => absurd (e.trans ha.symm) (hne' (by bv_omega)))
  · intro h; cases h; rfl

end Sys2Proof.Machine
end

