-- ==== Sys2Proof/Laws/Keeps.lean ====
section
/-! SUPPORT. What the 512 meanings are made of, said once: every arm of `exec` answers one of a few shared operations, and a
relation between states that the register writes and the bus write keep is kept by all of them. -/

namespace Sys2Proof.Machine

/-- The shared operations that write registers only. -/
inductive PlainOp : M Unit → Prop where
  | nop : PlainOp (pure ())
  | stop (u : Byte) : PlainOp (stopOp u)
  | unused (op : Byte) : PlainOp (unusedOp op)
  | ldRegReg (dst src : R8) : PlainOp (ldRegReg dst src)
  | ldRegImm (dst : R8) (n : Byte) : PlainOp (ldRegImm dst n)
  | ldRegMem (dst : R8) (addr : State → Word) : PlainOp (ldRegMem dst addr)
  | ldAHlStep (delta : Word) : PlainOp (ldAHlStep delta)
  | ldPairImm (p : Rp) (nn : Word) : PlainOp (ldPairImm p nn)
  | ldSpHl : PlainOp ldSpHl
  | ldHlSpE (u : Byte) : PlainOp (ldHlSpE u)
  | popPair (p : Rp2) : PlainOp (popPair p)
  | aluReg (op : AluOp) (r : R8) : PlainOp (aluReg op r)
  | aluMem (op : AluOp) : PlainOp (aluMem op)
  | aluImm (op : AluOp) (n : Byte) : PlainOp (aluImm op n)
  | incReg (r : R8) : PlainOp (incReg r)
  | decReg (r : R8) : PlainOp (decReg r)
  | stepPair (p : Rp) (delta : Word) : PlainOp (stepPair p delta)
  | addHlPair (p : Rp) : PlainOp (addHlPair p)
  | addSpImm (u : Byte) : PlainOp (addSpImm u)
  | daaA : PlainOp daaA
  | cplA : PlainOp cplA
  | flagOp (g : Flags → Flags) : PlainOp (flagOp g)
  | rotAcc (f : Byte → Bool → Byte × Bool) : PlainOp (rotAcc f)
  | jpAbs (nn : Word) : PlainOp (jpAbs nn)
  | jpIf (cc : Cond) (nn : Word) : PlainOp (ifCond cc (jpAbs nn))
  | jpHl : PlainOp jpHl
  | jrRel (u : Byte) : PlainOp (jrRel u)
  | jrIf (cc : Cond) (u : Byte) : PlainOp (ifCond cc (jrRel u))
  | retPop : PlainOp retPop
  | retIf (cc : Cond) : PlainOp (retIf cc)
  | cbRotReg (op : RotOp) (r : R8) : PlainOp (cbRot op (.reg r))
  | cbBit (b : BitVec 3) (o : CbOperand) : PlainOp (cbBit b o)
  | cbResReg (b : BitVec 3) (r : R8) : PlainOp (cbRes b (.reg r))
  | cbSetReg (b : BitVec 3) (r : R8) : PlainOp (cbSet b (.reg r))

/-- The shared operations that store to memory, too. -/
inductive StoreOp : M Unit → Prop where
  | ldMemReg (addr : State → Word) (src : R8) : StoreOp (ldMemReg addr src)
  | ldHlImm (n : Byte) : StoreOp (ldHlImm n)
  | ldHlStepA (delta : Word) : StoreOp (ldHlStepA delta)
  | ldMemSp (nn : Word) : StoreOp (ldMemSp nn)
  | pushPair (p : Rp2) : StoreOp (pushPair p)
  | incMem : StoreOp incMem
  | decMem : StoreOp decMem
  | callAbs (a : Word) : StoreOp (callAbs a)
  | callIf (cc : Cond) (a : Word) : StoreOp (ifCond cc (callAbs a))
  | cbRotHl (op : RotOp) : StoreOp (cbRot op .hl)
  | cbResHl (b : BitVec 3) : StoreOp (cbRes b .hl)
  | cbSetHl (b : BitVec 3) : StoreOp (cbSet b .hl)
  | cbPrefixed : StoreOp cbPrefixed

/-- HALT, DI, EI and RETI alone write halted or IME. -/
theorem exec_shape (i : Instr) (h : i ≠ .halt ∧ i ≠ .di ∧ i ≠ .ei ∧ i ≠ .reti) :
    ∃ m, (∀ s, exec i s = answer m s) ∧ (PlainOp m ∨ StoreOp m) := by
  cases i
  case halt => exact absurd rfl h.1
  case di => exact absurd rfl h.2.1
  case ei => exact absurd rfl h.2.2.1
  case reti => exact absurd rfl h.2.2.2
  all_goals dsimp only [exec]
  all_goals refine ⟨_, fun _ => rfl, ?_⟩
  all_goals first | exact .inl (by with_reducible constructor) | exact .inr (by with_reducible constructor)

/-- A relation between states, kept by every write of a register and every charge of cycles. -/
structure Closed (R : State → State → Prop) : Prop where
  refl : ∀ s, R s s
  trans : ∀ {s t u}, R s t → R t u → R s u
  charge : ∀ s n, R s (s.charge n)
  setReg : ∀ s r v, R s (s.setReg r v)
  setF : ∀ s v, R s (s.setF v)
  setSp : ∀ s v, R s (s.setSp v)
  setPc : ∀ s v, R s (s.setPc v)

/-- ... and by every bus write. -/
structure ClosedStores (R : State → State → Prop) : Prop extends Closed R where
  store : ∀ s a v t, busStore s a v = .ok t → R s t

/-- `m` keeps `R`, whether it ends with a value or a fault. -/
def Keeps {α : Type} (R : State → State → Prop) (m : M α) : Prop :=
  ∀ s, match m s with
    | .ok _ t => R s t
    | .error _ t => R s t

namespace Closed

variable {R : State → State → Prop} {α β : Type}

theorem setFlags (h : Closed R) (s : State) (g : Flags) : R s (s.setFlags g) := h.setF s _

theorem setHl (h : Closed R) (s : State) (v : Word) : R s (s.setHl v) :=
  h.trans (h.setReg s .h (hiByte v)) (h.setReg _ .l (loByte v))

theorem setRp (h : Closed R) (s : State) (p : Rp) (v : Word) : R s (s.setRp p v) := by
  cases p
  · exact h.trans (h.setReg s .b (hiByte v)) (h.setReg _ .c (loByte v))
  · exact h.trans (h.setReg s .d (hiByte v)) (h.setReg _ .e (loByte v))
  · exact h.setHl s v
  · exact h.setSp s v

theorem setRp2 (h : Closed R) (s : State) (p : Rp2) (v : Word) : R s (s.setRp2 p v) := by
  cases p
  · exact h.setRp s .bc v
  · exact h.setRp s .de v
  · exact h.setHl s v
  · exact h.trans (h.setReg s .a (hiByte v)) (h.setF _ (loByte v))

theorem setResult (h : Closed R) (s : State) (r : Byte × Flags) : R s (s.setResult r) :=
  h.trans (h.setReg s .a r.1) (h.setFlags _ r.2)

theorem aluApply (h : Closed R) (op : AluOp) (v : Byte) (s : State) : R s (aluApply op v s) := by
  cases op <;> first | exact h.setFlags s _ | exact h.setResult s _

theorem pure (h : Closed R) (a : α) : Keeps R (Pure.pure a : M α) := fun s => h.refl s

theorem raise (h : Closed R) (f : Fault) : Keeps R (Machine.raise f : M α) := fun s => h.refl s

theorem view (h : Closed R) (g : State → α) : Keeps R (Machine.view g) := fun s => h.refl s

theorem update {g : State → State} (hg : ∀ s, R s (g s)) : Keeps R (Machine.update g) := hg

theorem bind (h : Closed R) {m : M α} {k : α → M β} (hm : Keeps R m) (hk : ∀ a, Keeps R (k a)) : Keeps R (m >>= k) := by
  intro s
  have h1 := hm s
  cases e : m s with
  | ok a t =>
    rw [e] at h1
    rw [M.bind_ok e]
    have h2 := hk a t
    revert h2
    cases k a t <;> exact fun h2 => h.trans h1 h2
  | error f t =>
    rw [e] at h1
    rw [M.bind_error e]
    exact h1

theorem ite (_h : Closed R) {c : Prop} [Decidable c] {x y : M α} (hx : Keeps R x) (hy : Keeps R y) :
    Keeps R (if c then x else y) := by split <;> assumption

theorem tick (h : Closed R) : Keeps R Machine.tick := fun s => h.charge s 4

theorem orRaise (h : Closed R) (x : Except Fault α) : Keeps R (Machine.orRaise x) := by
  cases x
  · exact h.raise _
  · exact h.pure _

theorem memRead (h : Closed R) (a : Word) : Keeps R (Machine.memRead a) :=
  h.bind h.tick fun _ => h.bind (h.view _) fun _ => h.orRaise _

theorem viewRead (h : Closed R) (g : State → Word) : Keeps R (do Machine.memRead (← Machine.view g)) :=
  h.bind (h.view g) fun a => h.memRead a

theorem fetch8 (h : Closed R) : Keeps R Machine.fetch8 :=
  h.bind (h.view _) fun a => h.bind (h.memRead a) fun _ => h.bind (update fun s => h.setPc s _) fun _ => h.pure _

theorem pop16 (h : Closed R) : Keeps R Machine.pop16 :=
  h.bind (h.view _) fun a => h.bind (h.memRead a) fun _ => h.bind (update fun s => h.setSp s _) fun _ =>
    h.bind (h.view _) fun b => h.bind (h.memRead b) fun _ => h.bind (update fun s => h.setSp s _) fun _ => h.pure _

theorem raiseDecode (h : Closed R) (k : Word) (b : Byte) : Keeps R (Machine.raiseDecode k b : M α) :=
  h.bind (h.view _) fun _ => h.raise _

theorem ifCond (h : Closed R) (cc : Cond) {m : M Unit} (hm : Keeps R m) : Keeps R (Machine.ifCond cc m) :=
  h.bind (h.view _) fun _ => h.ite hm (h.pure _)

theorem retPop (h : Closed R) : Keeps R Machine.retPop :=
  h.bind h.pop16 fun _ => h.bind h.tick fun _ => update fun s => h.setPc s _

theorem cbGet (h : Closed R) (o : CbOperand) : Keeps R (Machine.cbGet o) := by
  cases o
  · exact h.view _
  · exact h.viewRead _

theorem jpAbs (h : Closed R) (nn : Word) : Keeps R (Machine.jpAbs nn) := h.bind h.tick fun _ => update fun s => h.setPc s _

theorem jrRel (h : Closed R) (u : Byte) : Keeps R (Machine.jrRel u) := h.bind h.tick fun _ => update fun s => h.setPc s _

theorem plain (h : Closed R) {m : M Unit} (hm : PlainOp m) : Keeps R m := by
  have ldRegMem : ∀ (r : R8) (g : State → Word), Keeps R (Machine.ldRegMem r g) := fun r g =>
    h.bind (h.view g) fun a => h.bind (h.memRead a) fun _ => update fun s => h.setReg s r _
  cases hm
  case nop => exact h.pure _
  case stop u => exact h.ite (h.pure _) (h.raiseDecode _ _)
  case unused op => exact h.raiseDecode _ _
  case ldRegReg => exact update fun s => h.setReg s _ _
  case ldRegImm => exact update fun s => h.setReg s _ _
  case ldRegMem r g => exact ldRegMem r g
  case ldAHlStep => exact h.bind (ldRegMem _ _) fun _ => update fun s => h.setHl s _
  case ldPairImm => exact update fun s => h.setRp s _ _
  case ldSpHl => exact h.bind h.tick fun _ => update fun s => h.setSp s _
  case ldHlSpE => exact h.bind h.tick fun _ => update fun s => h.trans (h.setHl s _) (h.setFlags _ _)
  case popPair => exact h.bind h.pop16 fun _ => update fun s => h.setRp2 s _ _
  case aluReg => exact update fun s => h.aluApply _ _ s
  case aluMem => exact h.bind (h.view _) fun a => h.bind (h.memRead a) fun _ => update fun s => h.aluApply _ _ s
  case aluImm => exact update fun s => h.aluApply _ _ s
  case incReg => exact update fun s => h.trans (h.setReg s _ _) (h.setFlags _ _)
  case decReg => exact update fun s => h.trans (h.setReg s _ _) (h.setFlags _ _)
  case stepPair => exact h.bind h.tick fun _ => update fun s => h.setRp s _ _
  case addHlPair => exact h.bind h.tick fun _ => update fun s => h.trans (h.setHl s _) (h.setFlags _ _)
  case addSpImm =>
    exact h.bind h.tick fun _ => h.bind h.tick fun _ => update fun s => h.trans (h.setSp s _) (h.setFlags _ _)
  case daaA => exact update fun s => h.setResult s _
  case cplA => exact update fun s => h.setResult s _
  case flagOp => exact update fun s => h.setFlags s _
  case rotAcc => exact update fun s => h.setResult s _
  case jpAbs => exact h.jpAbs _
  case jpIf => exact h.ifCond _ (h.jpAbs _)
  case jpHl => exact update fun s => h.setPc s _
  case jrRel => exact h.jrRel _
  case jrIf => exact h.ifCond _ (h.jrRel _)
  case retPop => exact h.retPop
  case retIf => exact h.bind h.tick fun _ => h.ifCond _ h.retPop
  case cbRotReg =>
    exact h.bind (h.view _) fun _ => h.bind (h.view _) fun _ => h.bind (update fun s => h.setReg s _ _) fun _ =>
      update fun s => h.setFlags s _
  case cbBit => exact h.bind (h.cbGet _) fun _ => update fun s => h.setFlags s _
  case cbResReg => exact h.bind (h.view _) fun _ => update fun s => h.setReg s _ _
  case cbSetReg => exact h.bind (h.view _) fun _ => update fun s => h.setReg s _ _

end Closed

namespace ClosedStores

variable {R : State → State → Prop}

theorem memStore (h : ClosedStores R) (a : Word) (v : Byte) : Keeps R (Machine.memStore a v) := by
  intro s
  have hc := h.charge s 4
  cases e : busStore (s.charge 4) a v with
  | ok t => rw [memStore_ok e]; exact h.trans hc (h.store _ a v t e)
  | error f => rw [memStore_error e]; exact hc

theorem oamDmaFrom (h : ClosedStores R) (page : Byte) (n i : Nat) : Keeps R (Machine.oamDmaFrom page n i) := by
  induction n generalizing i with
  | zero => exact h.pure _
  | succ n ih => exact h.bind (h.memRead _) fun _ => h.bind (h.memStore _ _) fun _ => ih _

theorem memWrite (h : ClosedStores R) (a : Word) (v : Byte) : Keeps R (Machine.memWrite a v) :=
  h.ite (h.bind h.tick fun _ => h.ite (h.raise _) (h.oamDmaFrom _ _ _)) (h.memStore _ _)

theorem viewWrite (h : ClosedStores R) (g : State → Word) (v : Byte) :
    Keeps R (do Machine.memWrite (← Machine.view g) v) :=
  h.bind (h.view g) fun a => h.memWrite a v

theorem push16 (h : ClosedStores R) (v : Word) : Keeps R (Machine.push16 v) :=
  h.bind (Closed.update fun s => h.setSp s _) fun _ => h.bind (h.view _) fun a => h.bind (h.memWrite a _) fun _ =>
    h.bind (Closed.update fun s => h.setSp s _) fun _ => h.viewWrite _ _

theorem callAbs (h : ClosedStores R) (a : Word) : Keeps R (Machine.callAbs a) :=
  h.bind h.tick fun _ => h.bind (h.view _) fun _ => h.bind (h.push16 _) fun _ => Closed.update fun s => h.setPc s _

theorem cbPut (h : ClosedStores R) (o : CbOperand) (v : Byte) : Keeps R (Machine.cbPut o v) := by
  cases o
  · exact Closed.update fun s => h.setReg s _ _
  · exact h.viewWrite _ _

theorem cbRot (h : ClosedStores R) (op : RotOp) (o : CbOperand) : Keeps R (Machine.cbRot op o) :=
  h.bind (h.cbGet o) fun _ => h.bind (h.view _) fun _ => h.bind (h.cbPut o _) fun _ => Closed.update fun s => h.setFlags s _

theorem cbRes (h : ClosedStores R) (b : BitVec 3) (o : CbOperand) : Keeps R (Machine.cbRes b o) :=
  h.bind (h.cbGet o) fun _ => h.cbPut o _

theorem cbSet (h : ClosedStores R) (b : BitVec 3) (o : CbOperand) : Keeps R (Machine.cbSet b o) :=
  h.bind (h.cbGet o) fun _ => h.cbPut o _

theorem cbRule (h : ClosedStores R) (op2 : Byte) : Keeps R (Machine.cbRule op2) := by
  unfold Machine.cbRule
  split
  · exact h.cbRot _ _
  · exact h.plain (.cbBit _ _)
  · exact h.cbRes _ _
  · exact h.cbSet _ _

theorem stores (h : ClosedStores R) {m : M Unit} (hm : StoreOp m) : Keeps R m := by
  have ldMemReg : ∀ (g : State → Word) (r : R8), Keeps R (Machine.ldMemReg g r) := fun g r =>
    h.bind (h.view g) fun _ => h.bind (h.view _) fun _ => h.memWrite _ _
  cases hm
  case ldMemReg g r => exact ldMemReg g r
  case ldHlImm => exact h.viewWrite _ _
  case ldHlStepA => exact h.bind (ldMemReg _ _) fun _ => Closed.update fun s => h.setHl s _
  case ldMemSp => exact h.bind (h.view _) fun _ => h.bind (h.memWrite _ _) fun _ => h.bind (h.view _) fun _ => h.memWrite _ _
  case pushPair => exact h.bind h.tick fun _ => h.bind (h.view _) fun _ => h.push16 _
  case incMem =>
    exact h.bind (h.view _) fun _ => h.bind (h.memRead _) fun _ => h.bind (h.view _) fun _ => h.bind (h.memWrite _ _) fun _ =>
      Closed.update fun s => h.setFlags s _
  case decMem =>
    exact h.bind (h.view _) fun _ => h.bind (h.memRead _) fun _ => h.bind (h.view _) fun _ => h.bind (h.memWrite _ _) fun _ =>
      Closed.update fun s => h.setFlags s _
  case callAbs => exact h.callAbs _
  case callIf => exact h.ifCond _ (h.callAbs _)
  case cbRotHl => exact h.cbRot _ _
  case cbResHl => exact h.cbRes _ _
  case cbSetHl => exact h.cbSet _ _
  case cbPrefixed => exact h.bind h.fetch8 fun _ => h.bind (h.view _) fun _ => h.ite (h.raiseDecode _ _) (h.cbRule _)

theorem fetchOperands (h : Closed R) (n : Nat) : Keeps R (Machine.fetchOperands n) := by
  match n with
  | 0 => exact h.pure _
  | 1 => exact h.bind h.fetch8 fun _ => h.pure _
  | _ + 2 => exact h.bind h.fetch8 fun _ => h.bind h.fetch8 fun _ => h.pure _

theorem fetchInstr (h : Closed R) : Keeps R Machine.fetchInstr := by
  refine h.bind h.fetch8 fun op => h.bind (h.view _) fun _ => h.ite (h.raiseDecode _ _) ?_
  refine h.bind (fetchOperands h _) fun p => h.bind (h.view _) fun _ => h.ite (h.raiseDecode _ _) ?_
  unfold decodeOrRaise
  split
  · exact h.pure _
  · exact h.raiseDecode _ _
  · exact h.raiseDecode _ _

end ClosedStores

/-- What an operation keeps, its answer keeps, if holding a fault does. -/
theorem Keeps.answer {R : State → State → Prop} (h : Closed R) (hf : ∀ s f, R s (s.withFault f)) {m : M Unit}
    (hm : Keeps R m) {s t : State} (e : Machine.answer m s = .next t) : R s t := by
  have h1 := hm s
  unfold Machine.answer at e
  cases he : m s with
  | ok a u => rw [he] at h1 e; cases e; exact h1
  | error f u => rw [he] at h1 e; cases e; exact h.trans h1 (hf u f)

/-- A relation that register writes, bus writes and holding a fault keep is kept by every instruction but the four that
write halted or IME. -/
theorem exec_keeps {R : State → State → Prop} (h : ClosedStores R) (hf : ∀ s f, R s (s.withFault f)) {i : Instr}
    (hi : i ≠ .halt ∧ i ≠ .di ∧ i ≠ .ei ∧ i ≠ .reti) {s t : State} (e : exec i s = .next t) : R s t := by
  obtain ⟨m, hm, hp | hs⟩ := exec_shape i hi
  · rw [hm] at e
    exact (h.plain hp).answer h.toClosed hf e
  · rw [hm] at e
    exact (h.stores hs).answer h.toClosed hf e

end Sys2Proof.Machine
end

