-- ==== Sys2Proof/Laws/Ppu.lean ====
section
/-! SUPPORT. What the mode machine can do (60_exceptions.md R430 to R437): where a transition goes, what it leaves alone, and
how the loop of PpuUpdate splits. Also what the renderer reads. -/

namespace Sys2Proof.Machine

variable {s : State}

/-! The renderer reads VRAM, LCDC bits 3 to 6, the scroll registers and the window position, nothing else (R440 to R447). -/

theorem lineColours_congr {p q : Ppu} (y : Nat) (hv : q.vram = p.vram) (h3 : q.lcdc.getLsbD 3 = p.lcdc.getLsbD 3)
    (h4 : q.lcdc.getLsbD 4 = p.lcdc.getLsbD 4) (h5 : q.lcdc.getLsbD 5 = p.lcdc.getLsbD 5)
    (h6 : q.lcdc.getLsbD 6 = p.lcdc.getLsbD 6)
    (hs : q.scx = p.scx ∧ q.scy = p.scy ∧ q.wx = p.wx ∧ q.wy = p.wy) (n x : Nat) (w : Bool) :
    lineColours q y n x w = lineColours p y n x w := by
  obtain ⟨e1, e2, e3, e4⟩ := hs
  have hp : ∀ b px py, pixel q b px py = pixel p b px py := fun b px py => by
    unfold pixel tileIndex; rw [hv, h4]
  induction n generalizing x w with
  | zero => rfl
  | succ n ih =>
    have hw : windowStartsAt q y x = windowStartsAt p y x := by unfold windowStartsAt; rw [h5, e3, e4]
    have h1 : windowPixel q y x = windowPixel p y x := by unfold windowPixel; rw [hp, h6, e3, e4]
    have h2 : backgroundPixel q y x = backgroundPixel p y x := by unfold backgroundPixel; rw [hp, h3, e1, e2]
    unfold lineColours
    rw [hw, h1, h2]
    exact congrArg _ (ih _ _)

/-! One transition. -/

/-- The mode and the line after a transition (R431). -/
def nextPosition (m : PpuMode) (ly : Byte) : PpuMode × Byte :=
  match m with
  | .oamScan => (.transfer, ly)
  | .transfer => (.hblank, ly)
  | .hblank => (if ly + 1 = 144 then .vblank else .oamScan, ly + 1)
  | .vblank => if ly + 1 = 154 then (.oamScan, 0) else (.vblank, ly + 1)

theorem enterMode_mode (m : PpuMode) (s : State) :
    (enterMode m s).ppu.mode = m ∧ (enterMode m s).ppu.ly = s.ppu.ly ∧ (enterMode m s).ppu.pcnt = s.ppu.pcnt ∧
    (enterMode m s).ppu.lcdc = s.ppu.lcdc := by
  rw [enterMode_eq]
  by_cases h : m = .transfer
  · rw [if_pos h, renderScanline_eq]
    exact ⟨rfl, rfl, rfl, rfl⟩
  · rw [if_neg h]
    exact ⟨rfl, rfl, rfl, rfl⟩

theorem compareLY_position (s : State) :
    (compareLY s).ppu.mode = s.ppu.mode ∧ (compareLY s).ppu.ly = s.ppu.ly ∧ (compareLY s).ppu.pcnt = s.ppu.pcnt ∧
    (compareLY s).ppu.lcdc = s.ppu.lcdc := by
  unfold compareLY requestIrq
  dsimp only
  split <;> exact ⟨rfl, rfl, rfl, rfl⟩

theorem modeEnds_position (s : State) :
    ((modeEnds s).ppu.mode, (modeEnds s).ppu.ly) = nextPosition s.ppu.mode s.ppu.ly ∧
    (modeEnds s).ppu.pcnt = s.ppu.pcnt ∧ (modeEnds s).ppu.lcdc = s.ppu.lcdc := by
  have hc := fun v => compareLY_position (setLY v s)
  unfold modeEnds
  split <;> rename_i hm <;> rw [hm]
  · obtain ⟨h1, h2, h3, h4⟩ := enterMode_mode .transfer s
    exact ⟨Prod.ext h1 h2, h3, h4⟩
  · obtain ⟨h1, h2, h3, h4⟩ := enterMode_mode .hblank s
    exact ⟨Prod.ext h1 h2, h3, h4⟩
  · obtain ⟨c1, c2, c3, c4⟩ := hc (s.ppu.ly + 1)
    have c2' : (compareLY (setLY (s.ppu.ly + 1) s)).ppu.ly = s.ppu.ly + 1 := c2
    unfold hblankEnds nextPosition
    dsimp only
    rw [c2']
    split
    · obtain ⟨h1, h2, h3, h4⟩ := enterMode_mode .vblank (compareLY (setLY (s.ppu.ly + 1) s))
      exact ⟨Prod.ext h1 (h2.trans c2'), h3.trans c3, h4.trans c4⟩
    · obtain ⟨h1, h2, h3, h4⟩ := enterMode_mode .oamScan (compareLY (setLY (s.ppu.ly + 1) s))
      exact ⟨Prod.ext h1 (h2.trans c2'), h3.trans c3, h4.trans c4⟩
  · unfold vblankLineEnds nextPosition
    dsimp only
    split
    · obtain ⟨c1, c2, c3, c4⟩ := hc 0
      obtain ⟨h1, h2, h3, h4⟩ := enterMode_mode .oamScan (compareLY (setLY 0 s))
      exact ⟨Prod.ext h1 (h2.trans c2), h3.trans c3, h4.trans c4⟩
    · obtain ⟨c1, c2, c3, c4⟩ := hc (s.ppu.ly + 1)
      exact ⟨Prod.ext (c1.trans hm) c2, c3, c4⟩

/-! The bits a transition may request: V-Blank and STAT. -/

/-- `t` is `s` after the mode machine ran: only the mode, pcnt, LY, coinc, the screen and the requests 0 and 1 of IF have
changed (R430 to R437, R446). -/
def PpuAdvance (s t : State) : Prop :=
  ∃ mode pcnt ly coinc fb bgpri, ∃ m : Byte, m &&& 0xFC = 0 ∧
    t = { s with ifr := s.ifr ||| m
                 ppu := { s.ppu with mode := mode, pcnt := pcnt, ly := ly, coinc := coinc, fb := fb, bgpri := bgpri } }

theorem PpuAdvance.refl (s : State) : PpuAdvance s s :=
  ⟨s.ppu.mode, s.ppu.pcnt, s.ppu.ly, s.ppu.coinc, s.ppu.fb, s.ppu.bgpri, 0, by decide, by simp⟩

theorem PpuAdvance.trans {t u : State} (h : PpuAdvance s t) (h' : PpuAdvance t u) : PpuAdvance s u := by
  obtain ⟨_, _, _, _, _, _, m, hm, rfl⟩ := h
  obtain ⟨a, b, c, d, e, f, m', hm', rfl⟩ := h'
  refine ⟨a, b, c, d, e, f, m ||| m', ?_, ?_⟩
  · have : (m ||| m') &&& 0xFC = (m &&& 0xFC) ||| (m' &&& 0xFC) := by
      ext i hi
      simp only [BitVec.getElem_and, BitVec.getElem_or, Bool.and_or_distrib_right]
    rw [this, hm, hm']
    rfl
  · simp only [BitVec.or_assoc]

theorem setLY_advance (v : Byte) (s : State) : PpuAdvance s (setLY v s) :=
  ⟨s.ppu.mode, s.ppu.pcnt, v, s.ppu.coinc, s.ppu.fb, s.ppu.bgpri, 0, by decide, by simp [setLY]⟩

theorem setPcnt_advance (p : Nat) (s : State) : PpuAdvance s (setPcnt p s) :=
  ⟨s.ppu.mode, BitVec.ofNat 16 p, s.ppu.ly, s.ppu.coinc, s.ppu.fb, s.ppu.bgpri, 0, by decide, by simp [setPcnt]⟩

theorem compareLY_advance (s : State) : PpuAdvance s (compareLY s) := by
  unfold compareLY requestIrq
  dsimp only
  split
  · exact ⟨_, _, _, _, _, _, Interrupt.stat.mask, by decide, rfl⟩
  · exact ⟨s.ppu.mode, s.ppu.pcnt, s.ppu.ly, decide (s.ppu.ly = s.ppu.lyc), s.ppu.fb, s.ppu.bgpri, 0, by decide, by simp⟩

theorem enterMode_advance (m : PpuMode) (s : State) : PpuAdvance s (enterMode m s) := by
  have key : ∀ i : Byte, i &&& 0xFC = 0 → ∀ f, f = s.ifr ||| i → PpuAdvance s
      { s with ifr := f
               ppu := if m = .transfer then renderScanline { s.ppu with mode := m } else { s.ppu with mode := m } } := by
    rintro i hi f rfl
    by_cases h : m = .transfer
    · simp only [if_pos h]
      rw [renderScanline_eq]
      exact ⟨m, _, _, _, (renderScanline { s.ppu with mode := m }).fb, (renderScanline { s.ppu with mode := m }).bgpri, i, hi, rfl⟩
    · simp only [if_neg h]
      exact ⟨m, _, _, _, _, _, i, hi, rfl⟩
  rw [enterMode_eq]
  cases s.ppu.modeEnable m
  · exact key 0 (by decide) _ (by simp)
  · exact key Interrupt.stat.mask (by decide) _ (by simp)

theorem requestVblank_advance (s : State) : PpuAdvance s (requestIrq .vblank s) :=
  ⟨_, _, _, _, _, _, Interrupt.vblank.mask, by decide, rfl⟩

theorem modeEnds_advance (s : State) : PpuAdvance s (modeEnds s) := by
  have hc := fun v => (setLY_advance v s).trans (compareLY_advance (setLY v s))
  unfold modeEnds
  split
  · exact enterMode_advance _ s
  · exact enterMode_advance _ s
  · unfold hblankEnds
    dsimp only
    split
    · exact ((hc _).trans (enterMode_advance _ _)).trans (requestVblank_advance _)
    · exact (hc _).trans (enterMode_advance _ _)
  · unfold vblankLineEnds
    split
    · exact (hc _).trans (enterMode_advance _ _)
    · exact hc _

/-- The mode machine keeps every memory canonical. -/
theorem modeEnds_wf (h : s.MemoryWf) : (modeEnds s).MemoryWf := by
  have hc : ∀ v, (compareLY (setLY v s)).MemoryWf := fun v => by
    unfold compareLY requestIrq setLY
    dsimp only
    split <;> exact ⟨h.wram, h.hram, h.vram, h.oam, h.cram, h.rom, h.fb, h.bgpri⟩
  have hr : ∀ {t : State}, t.MemoryWf → (requestIrq .vblank t).MemoryWf := fun h =>
    ⟨h.wram, h.hram, h.vram, h.oam, h.cram, h.rom, h.fb, h.bgpri⟩
  unfold modeEnds
  split
  · exact enterMode_wf h _
  · exact enterMode_wf h _
  · unfold hblankEnds
    dsimp only
    split
    · exact hr (enterMode_wf (hc _) _)
    · exact enterMode_wf (hc _) _
  · unfold vblankLineEnds
    split
    · exact enterMode_wf (hc _) _
    · exact hc _

/-! The loop. -/

theorem PpuMode.length_bounds (m : PpuMode) : 80 ≤ m.length ∧ m.length ≤ 456 := by cases m <;> decide

/-- What every transition and every store of pcnt keeps, the loop keeps. -/
theorem ppuLoop_induct {P : State → Prop} (hm : ∀ s, P s → P (modeEnds s)) (hp : ∀ s p, P s → P (setPcnt p s))
    (fuel p : Nat) (s : State) (h : P s) : P (ppuLoop fuel p s) := by
  induction fuel generalizing p s with
  | zero => exact hp _ _ h
  | succ fuel ih =>
    unfold ppuLoop
    split
    · exact ih _ _ (hm _ h)
    · exact hp _ _ h

theorem ppuUpdate_induct {P : State → Prop} (hm : ∀ s, P s → P (modeEnds s)) (hp : ∀ s p, P s → P (setPcnt p s))
    (n : Nat) (s : State) (h : P s) : P (ppuUpdate n s) := by
  unfold ppuUpdate
  split
  · exact ppuLoop_induct hm hp _ _ _ h
  · exact h

theorem ppuUpdate_advance (n : Nat) (s : State) : PpuAdvance s (ppuUpdate n s) :=
  ppuUpdate_induct (P := PpuAdvance s) (fun t h => h.trans (modeEnds_advance t)) (fun t p h => h.trans (setPcnt_advance p t))
    n s (PpuAdvance.refl s)

theorem ppuUpdate_wf (n : Nat) (h : s.MemoryWf) : (ppuUpdate n s).MemoryWf :=
  ppuUpdate_induct (P := State.MemoryWf) (fun _ h => modeEnds_wf h)
    (fun _ _ h => ⟨h.wram, h.hram, h.vram, h.oam, h.cram, h.rom, h.fb, h.bgpri⟩) n s h

/-- More fuel than p / 80 changes nothing. -/
theorem ppuLoop_fuel (fuel fuel' p : Nat) (s : State) (h : p / 80 < fuel) (h' : p / 80 < fuel') :
    ppuLoop fuel p s = ppuLoop fuel' p s := by
  induction fuel generalizing fuel' p s with
  | zero => omega
  | succ fuel ih =>
    obtain ⟨fuel', rfl⟩ : ∃ k, fuel' = k + 1 := ⟨fuel' - 1, by omega⟩
    unfold ppuLoop
    have hb := s.ppu.mode.length_bounds
    refine ite_rel (P := fun x y => x = y) (fun _ => ih _ _ _ ?_ ?_) fun _ => rfl
    · omega
    · omega

/-- The loop with as much fuel as it needs. -/
def ppuRun (p : Nat) (s : State) : State := ppuLoop (p / 80 + 1) p s

theorem ppuUpdate_on (h : s.ppu.displayOn = true) (n : Nat) : ppuUpdate n s = ppuRun (s.ppu.pcnt.toNat + n) s := if_pos h

theorem ppuUpdate_off (h : s.ppu.displayOn = false) (n : Nat) : ppuUpdate n s = s := if_neg (by rw [h]; decide)

theorem ppuRun_short {p : Nat} (h : p < s.ppu.mode.length) : ppuRun p s = setPcnt p s := if_neg (by omega)

/-- A whole mode, then the rest. -/
theorem ppuRun_long (p : Nat) (s : State) : ppuRun (s.ppu.mode.length + p) s = ppuRun p (modeEnds s) := by
  have hb := s.ppu.mode.length_bounds
  unfold ppuRun
  rw [ppuLoop, if_pos (by omega), Nat.add_sub_cancel_left]
  exact ppuLoop_fuel _ _ _ _ (by omega) (by omega)

/-- Induction over the transitions of a run. -/
theorem ppuRun_induct {P : Nat → State → Prop} (short : ∀ p s, p < s.ppu.mode.length → P p s)
    (long : ∀ p s, P p (modeEnds s) → P (s.ppu.mode.length + p) s) (p : Nat) (s : State) : P p s := by
  suffices h : ∀ k p s, p < k → P p s from h (p + 1) p s (by omega)
  intro k
  induction k with
  | zero => intro p s h; omega
  | succ k ih =>
    intro p s h
    by_cases hp : p < s.ppu.mode.length
    · exact short p s hp
    · have hb := s.ppu.mode.length_bounds
      obtain ⟨q, rfl⟩ : ∃ q, p = s.ppu.mode.length + q := ⟨p - s.ppu.mode.length, by omega⟩
      exact long q s (ih _ _ (by omega))

/-- A run leaves the position inside its mode. -/
theorem ppuRun_pcnt (p : Nat) (s : State) : (ppuRun p s).ppu.pcnt.toNat < (ppuRun p s).ppu.mode.length := by
  refine ppuRun_induct (P := fun p s => (ppuRun p s).ppu.pcnt.toNat < (ppuRun p s).ppu.mode.length) ?_ ?_ p s
  · intro p s h
    rw [ppuRun_short h]
    have hb := s.ppu.mode.length_bounds
    show (BitVec.ofNat 16 p).toNat < s.ppu.mode.length
    rw [BitVec.toNat_ofNat]
    omega
  · intro p s h
    rw [ppuRun_long]
    exact h

end Sys2Proof.Machine
end

