-- ==== Sys2Proof/Tests/Slice0.lean ====
section
/-! SUPPORT. Tests of the model on fixed values, each expected value from the spec's own tables: the encodings of
30_encoding.md and spec/opcode_table.json, and the vectors of 95_test_vectors.md by their ids. Then, for every statement
with hypotheses, a concrete case that meets them. -/

namespace Sys2Proof.Tests

open Sys2Proof.Machine Sys2Proof.Spec

/-! WellFormed: the one check it makes is STOP's trailing byte (30_encoding.md R129). -/

theorem test_wellFormed_stop_zero : Instr.wellFormed (.stop 0x00) = true := by decide

theorem test_wellFormed_refuses_stop_nonzero : Instr.wellFormed (.stop 0x01) = false := by decide

/-! Decoding: words written out bit by bit from 30_encoding.md R122 to R134, one or more for every family. -/

/-- 01 ddd sss: LD C,B is 01 001 000 (R133). -/
theorem test_decode_ld_r_r : decode [0b01001000] = .instr .ldCB [] := by decide

/-- 01 ddd 110: LD H,(HL) is 01 100 110. -/
theorem test_decode_ld_r_hl : decode [0b01100110] = .instr .ldHAtHL [] := by decide

/-- 01 110 sss: LD (HL),A is 01 110 111. -/
theorem test_decode_ld_hl_r : decode [0b01110111] = .instr .ldAtHLA [] := by decide

/-- 00 ddd 110 n: LD E,0x9A is 00 011 110, 0x9A. -/
theorem test_decode_ld_r_n : decode [0b00011110, 0x9A] = .instr (.ldEn 0x9A) [] := by decide

/-- 00 pp 0001 nn: LD SP,0xDFF0 is 00 11 0001, then the low byte and the high byte. -/
theorem test_decode_ld_rr_nn : decode [0b00110001, 0xF0, 0xDF] = .instr (.ldSPnn 0xDFF0) [] := by decide

/-- 00 10 0010 and 00 11 1010: LD (HL+),A and LD A,(HL-). -/
theorem test_decode_ld_hl_step :
    [decode [0b00100010], decode [0b00111010]] = [.instr .ldAtHLIncA [], .instr .ldAAtHLDec []] := by decide

/-- 11 pp 0101 and 11 pp 0001: PUSH DE and POP AF. -/
theorem test_decode_push_pop : [decode [0b11010101], decode [0b11110001]] = [.instr .pushDE [], .instr .popAF []] := by
  decide

/-- 111 00000 n, 111 10000 n, 111 01010 nn: LDH (n),A, LDH A,(n), LD (nn),A. -/
theorem test_decode_ldh : [decode [0b11100000, 0x46], decode [0b11110000, 0x44], decode [0b11101010, 0x34, 0x12]] =
    [.instr (.ldhAtNA 0x46) [], .instr (.ldhAAtN 0x44) [], .instr (.ldAtNnA 0x1234) []] := by decide

/-- 10 ooo sss: SBC A,A is 10 011 111 and CP (HL) is 10 111 110; 11 ooo 110 n: AND n is 11 100 110. -/
theorem test_decode_alu : [decode [0b10011111], decode [0b10111110], decode [0b11100110, 0x0F]] =
    [.instr .sbcAA [], .instr .cpAtHL [], .instr (.andn 0x0F) []] := by decide

/-- 00 ddd 100 and 00 ddd 101: INC (HL) is 00 110 100 and DEC L is 00 101 101. -/
theorem test_decode_inc_dec : [decode [0b00110100], decode [0b00101101]] = [.instr .incAtHL [], .instr .decL []] := by
  decide

/-- 00 pp 0011, 00 pp 1011, 00 pp 1001, 11 101 000 e: INC DE, DEC SP, ADD HL,HL, ADD SP,e. -/
theorem test_decode_16bit : [decode [0b00010011], decode [0b00111011], decode [0b00101001], decode [0b11101000, 0xFE]] =
    [.instr .incDE [], .instr .decSP [], .instr .addHLHL [], .instr (.addSPe 0xFE) []] := by decide

/-- 00 yyy 111: the accumulator rotates, DAA, CPL, SCF, CCF. -/
theorem test_decode_accumulator : [decode [0b00000111], decode [0b00011111], decode [0b00100111], decode [0b00111111]] =
    [.instr .rlca [], .instr .rra [], .instr .daa [], .instr .ccf []] := by decide

/-- 110 cc 010 nn, 001 cc 000 e, 110 cc 100 nn, 110 cc 000, 11 ttt 111: JP NC, JR Z, CALL C, RET NZ, RST 0x28. -/
theorem test_decode_control : [decode [0b11010010, 0x34, 0x12], decode [0b00101000, 0xFC], decode [0b11011100, 0x10, 0x01],
      decode [0b11000000], decode [0b11101111]] =
    [.instr (.jpNCnn 0x1234) [], .instr (.jrZe 0xFC) [], .instr (.callCnn 0x0110) [], .instr .retNZ [], .instr .rst28 []] := by
  decide

/-- 0xCB, then 00 ooo sss, 01 bbb sss, 10 bbb sss, 11 bbb sss (R134): SWAP (HL), BIT 7,H, RES 0,(HL), SET 3,A. -/
theorem test_decode_cb : [decode [0xCB, 0b00110110], decode [0xCB, 0b01111100], decode [0xCB, 0b10000110],
      decode [0xCB, 0b11011111]] =
    [.instr .swapAtHL [], .instr .bit7H [], .instr .res0AtHL [], .instr .set3A []] := by decide

/-- STOP takes a zero byte, or is rejected by name (R129); HALT, DI, EI and an unused byte (R130). -/
theorem test_decode_system : [decode [0x10, 0x00], decode [0x10, 0x01], decode [0x76], decode [0xF3], decode [0xFB],
      decode [0xD3]] =
    [.instr (.stop 0x00) [], .rejected (.stopTrailing 0x01), .instr .halt [], .instr .di [], .instr .ei [],
     .instr .unusedD3 []] := by decide

/-- A truncated instruction is rejected by name; the bare prefix is its own row. -/
theorem test_decode_truncated : [decode [0x01, 0x34], decode [0xCB]] = [.rejected .truncated, .instr .cbPrefix []] := by decide

/-- The table's words: one byte, the two-byte matches with the first byte in the high part (log 4). -/
theorem test_decodeTableWord : [decodeTableWord 8 0x3E, decodeTableWord 8 0xCB, decodeTableWord 16 0xCB7C,
      decodeTableWord 16 0x1000, decodeTableWord 8 0x10] =
    [some (.ldAn 0x00), some .cbPrefix, some .bit7H, some (.stop 0x00), some (.stop 0x00)] := by decide

/-- Encoding, the other way. -/
theorem test_encode : [encode (.ldBCnn 0x1234), encode (.jrNZe 0xFC), encode .bit7H, encode (.stop 0x00)] =
    [[0x01, 0x34, 0x12], [0x20, 0xFC], [0xCB, 0x7C], [0x10, 0x00]] := by decide

/-! Every row of spec/opcode_table.json: its match bytes, with the operand bytes 0x9A or 0x34, 0x12 where it has them, decode to
its constructor. The words are the table's, the pieces its two maps (30_encoding.md R133, R134) by rows of 0x40. -/

def words0 : List (List Byte × Instr) :=
  [([0x00], .nop), ([0x01, 0x34, 0x12], .ldBCnn 0x1234), ([0x02], .ldAtBCA), ([0x03], .incBC), ([0x04], .incB),
   ([0x05], .decB), ([0x06, 0x9A], .ldBn 0x9A), ([0x07], .rlca), ([0x08, 0x34, 0x12], .ldAtNnSP 0x1234),
   ([0x09], .addHLBC), ([0x0A], .ldAAtBC), ([0x0B], .decBC), ([0x0C], .incC), ([0x0D], .decC),
   ([0x0E, 0x9A], .ldCn 0x9A), ([0x0F], .rrca), ([0x10, 0x00], .stop 0x00), ([0x11, 0x34, 0x12], .ldDEnn 0x1234),
   ([0x12], .ldAtDEA), ([0x13], .incDE), ([0x14], .incD), ([0x15], .decD), ([0x16, 0x9A], .ldDn 0x9A), ([0x17], .rla),
   ([0x18, 0x9A], .jre 0x9A), ([0x19], .addHLDE), ([0x1A], .ldAAtDE), ([0x1B], .decDE), ([0x1C], .incE),
   ([0x1D], .decE), ([0x1E, 0x9A], .ldEn 0x9A), ([0x1F], .rra), ([0x20, 0x9A], .jrNZe 0x9A),
   ([0x21, 0x34, 0x12], .ldHLnn 0x1234), ([0x22], .ldAtHLIncA), ([0x23], .incHL), ([0x24], .incH), ([0x25], .decH),
   ([0x26, 0x9A], .ldHn 0x9A), ([0x27], .daa), ([0x28, 0x9A], .jrZe 0x9A), ([0x29], .addHLHL), ([0x2A], .ldAAtHLInc),
   ([0x2B], .decHL), ([0x2C], .incL), ([0x2D], .decL), ([0x2E, 0x9A], .ldLn 0x9A), ([0x2F], .cpl),
   ([0x30, 0x9A], .jrNCe 0x9A), ([0x31, 0x34, 0x12], .ldSPnn 0x1234), ([0x32], .ldAtHLDecA), ([0x33], .incSP),
   ([0x34], .incAtHL), ([0x35], .decAtHL), ([0x36, 0x9A], .ldAtHLn 0x9A), ([0x37], .scf), ([0x38, 0x9A], .jrCe 0x9A),
   ([0x39], .addHLSP), ([0x3A], .ldAAtHLDec), ([0x3B], .decSP), ([0x3C], .incA), ([0x3D], .decA),
   ([0x3E, 0x9A], .ldAn 0x9A), ([0x3F], .ccf)]

def words1 : List (List Byte × Instr) :=
  [([0x40], .ldBB), ([0x41], .ldBC), ([0x42], .ldBD), ([0x43], .ldBE), ([0x44], .ldBH), ([0x45], .ldBL),
   ([0x46], .ldBAtHL), ([0x47], .ldBA), ([0x48], .ldCB), ([0x49], .ldCC), ([0x4A], .ldCD), ([0x4B], .ldCE),
   ([0x4C], .ldCH), ([0x4D], .ldCL), ([0x4E], .ldCAtHL), ([0x4F], .ldCA), ([0x50], .ldDB), ([0x51], .ldDC),
   ([0x52], .ldDD), ([0x53], .ldDE), ([0x54], .ldDH), ([0x55], .ldDL), ([0x56], .ldDAtHL), ([0x57], .ldDA),
   ([0x58], .ldEB), ([0x59], .ldEC), ([0x5A], .ldED), ([0x5B], .ldEE), ([0x5C], .ldEH), ([0x5D], .ldEL),
   ([0x5E], .ldEAtHL), ([0x5F], .ldEA), ([0x60], .ldHB), ([0x61], .ldHC), ([0x62], .ldHD), ([0x63], .ldHE),
   ([0x64], .ldHH), ([0x65], .ldHL), ([0x66], .ldHAtHL), ([0x67], .ldHA), ([0x68], .ldLB), ([0x69], .ldLC),
   ([0x6A], .ldLD), ([0x6B], .ldLE), ([0x6C], .ldLH), ([0x6D], .ldLL), ([0x6E], .ldLAtHL), ([0x6F], .ldLA),
   ([0x70], .ldAtHLB), ([0x71], .ldAtHLC), ([0x72], .ldAtHLD), ([0x73], .ldAtHLE), ([0x74], .ldAtHLH),
   ([0x75], .ldAtHLL), ([0x76], .halt), ([0x77], .ldAtHLA), ([0x78], .ldAB), ([0x79], .ldAC), ([0x7A], .ldAD),
   ([0x7B], .ldAE), ([0x7C], .ldAH), ([0x7D], .ldAL), ([0x7E], .ldAAtHL), ([0x7F], .ldAA)]

def words2 : List (List Byte × Instr) :=
  [([0x80], .addAB), ([0x81], .addAC), ([0x82], .addAD), ([0x83], .addAE), ([0x84], .addAH), ([0x85], .addAL),
   ([0x86], .addAAtHL), ([0x87], .addAA), ([0x88], .adcAB), ([0x89], .adcAC), ([0x8A], .adcAD), ([0x8B], .adcAE),
   ([0x8C], .adcAH), ([0x8D], .adcAL), ([0x8E], .adcAAtHL), ([0x8F], .adcAA), ([0x90], .subB), ([0x91], .subC),
   ([0x92], .subD), ([0x93], .subE), ([0x94], .subH), ([0x95], .subL), ([0x96], .subAtHL), ([0x97], .subA),
   ([0x98], .sbcAB), ([0x99], .sbcAC), ([0x9A], .sbcAD), ([0x9B], .sbcAE), ([0x9C], .sbcAH), ([0x9D], .sbcAL),
   ([0x9E], .sbcAAtHL), ([0x9F], .sbcAA), ([0xA0], .andB), ([0xA1], .andC), ([0xA2], .andD), ([0xA3], .andE),
   ([0xA4], .andH), ([0xA5], .andL), ([0xA6], .andAtHL), ([0xA7], .andA), ([0xA8], .xorB), ([0xA9], .xorC),
   ([0xAA], .xorD), ([0xAB], .xorE), ([0xAC], .xorH), ([0xAD], .xorL), ([0xAE], .xorAtHL), ([0xAF], .xorA),
   ([0xB0], .orB), ([0xB1], .orC), ([0xB2], .orD), ([0xB3], .orE), ([0xB4], .orH), ([0xB5], .orL), ([0xB6], .orAtHL),
   ([0xB7], .orA), ([0xB8], .cpB), ([0xB9], .cpC), ([0xBA], .cpD), ([0xBB], .cpE), ([0xBC], .cpH), ([0xBD], .cpL),
   ([0xBE], .cpAtHL), ([0xBF], .cpA)]

def words3 : List (List Byte × Instr) :=
  [([0xC0], .retNZ), ([0xC1], .popBC), ([0xC2, 0x34, 0x12], .jpNZnn 0x1234), ([0xC3, 0x34, 0x12], .jpnn 0x1234),
   ([0xC4, 0x34, 0x12], .callNZnn 0x1234), ([0xC5], .pushBC), ([0xC6, 0x9A], .addAn 0x9A), ([0xC7], .rst00),
   ([0xC8], .retZ), ([0xC9], .ret), ([0xCA, 0x34, 0x12], .jpZnn 0x1234), ([0xCB], .cbPrefix),
   ([0xCC, 0x34, 0x12], .callZnn 0x1234), ([0xCD, 0x34, 0x12], .callnn 0x1234), ([0xCE, 0x9A], .adcAn 0x9A),
   ([0xCF], .rst08), ([0xD0], .retNC), ([0xD1], .popDE), ([0xD2, 0x34, 0x12], .jpNCnn 0x1234), ([0xD3], .unusedD3),
   ([0xD4, 0x34, 0x12], .callNCnn 0x1234), ([0xD5], .pushDE), ([0xD6, 0x9A], .subn 0x9A), ([0xD7], .rst10),
   ([0xD8], .retC), ([0xD9], .reti), ([0xDA, 0x34, 0x12], .jpCnn 0x1234), ([0xDB], .unusedDB),
   ([0xDC, 0x34, 0x12], .callCnn 0x1234), ([0xDD], .unusedDD), ([0xDE, 0x9A], .sbcAn 0x9A), ([0xDF], .rst18),
   ([0xE0, 0x9A], .ldhAtNA 0x9A), ([0xE1], .popHL), ([0xE2], .ldAtCA), ([0xE3], .unusedE3), ([0xE4], .unusedE4),
   ([0xE5], .pushHL), ([0xE6, 0x9A], .andn 0x9A), ([0xE7], .rst20), ([0xE8, 0x9A], .addSPe 0x9A), ([0xE9], .jpHL),
   ([0xEA, 0x34, 0x12], .ldAtNnA 0x1234), ([0xEB], .unusedEB), ([0xEC], .unusedEC), ([0xED], .unusedED),
   ([0xEE, 0x9A], .xorn 0x9A), ([0xEF], .rst28), ([0xF0, 0x9A], .ldhAAtN 0x9A), ([0xF1], .popAF), ([0xF2], .ldAAtC),
   ([0xF3], .di), ([0xF4], .unusedF4), ([0xF5], .pushAF), ([0xF6, 0x9A], .orn 0x9A), ([0xF7], .rst30),
   ([0xF8, 0x9A], .ldHLSPe 0x9A), ([0xF9], .ldSPHL), ([0xFA, 0x34, 0x12], .ldAAtNn 0x1234), ([0xFB], .ei),
   ([0xFC], .unusedFC), ([0xFD], .unusedFD), ([0xFE, 0x9A], .cpn 0x9A), ([0xFF], .rst38)]

def words4 : List (List Byte × Instr) :=
  [([0xCB, 0x00], .rlcB), ([0xCB, 0x01], .rlcC), ([0xCB, 0x02], .rlcD), ([0xCB, 0x03], .rlcE), ([0xCB, 0x04], .rlcH),
   ([0xCB, 0x05], .rlcL), ([0xCB, 0x06], .rlcAtHL), ([0xCB, 0x07], .rlcA), ([0xCB, 0x08], .rrcB),
   ([0xCB, 0x09], .rrcC), ([0xCB, 0x0A], .rrcD), ([0xCB, 0x0B], .rrcE), ([0xCB, 0x0C], .rrcH), ([0xCB, 0x0D], .rrcL),
   ([0xCB, 0x0E], .rrcAtHL), ([0xCB, 0x0F], .rrcA), ([0xCB, 0x10], .rlB), ([0xCB, 0x11], .rlC), ([0xCB, 0x12], .rlD),
   ([0xCB, 0x13], .rlE), ([0xCB, 0x14], .rlH), ([0xCB, 0x15], .rlL), ([0xCB, 0x16], .rlAtHL), ([0xCB, 0x17], .rlA),
   ([0xCB, 0x18], .rrB), ([0xCB, 0x19], .rrC), ([0xCB, 0x1A], .rrD), ([0xCB, 0x1B], .rrE), ([0xCB, 0x1C], .rrH),
   ([0xCB, 0x1D], .rrL), ([0xCB, 0x1E], .rrAtHL), ([0xCB, 0x1F], .rrA), ([0xCB, 0x20], .slaB), ([0xCB, 0x21], .slaC),
   ([0xCB, 0x22], .slaD), ([0xCB, 0x23], .slaE), ([0xCB, 0x24], .slaH), ([0xCB, 0x25], .slaL),
   ([0xCB, 0x26], .slaAtHL), ([0xCB, 0x27], .slaA), ([0xCB, 0x28], .sraB), ([0xCB, 0x29], .sraC),
   ([0xCB, 0x2A], .sraD), ([0xCB, 0x2B], .sraE), ([0xCB, 0x2C], .sraH), ([0xCB, 0x2D], .sraL),
   ([0xCB, 0x2E], .sraAtHL), ([0xCB, 0x2F], .sraA), ([0xCB, 0x30], .swapB), ([0xCB, 0x31], .swapC),
   ([0xCB, 0x32], .swapD), ([0xCB, 0x33], .swapE), ([0xCB, 0x34], .swapH), ([0xCB, 0x35], .swapL),
   ([0xCB, 0x36], .swapAtHL), ([0xCB, 0x37], .swapA), ([0xCB, 0x38], .srlB), ([0xCB, 0x39], .srlC),
   ([0xCB, 0x3A], .srlD), ([0xCB, 0x3B], .srlE), ([0xCB, 0x3C], .srlH), ([0xCB, 0x3D], .srlL),
   ([0xCB, 0x3E], .srlAtHL), ([0xCB, 0x3F], .srlA)]

def words5 : List (List Byte × Instr) :=
  [([0xCB, 0x40], .bit0B), ([0xCB, 0x41], .bit0C), ([0xCB, 0x42], .bit0D), ([0xCB, 0x43], .bit0E),
   ([0xCB, 0x44], .bit0H), ([0xCB, 0x45], .bit0L), ([0xCB, 0x46], .bit0AtHL), ([0xCB, 0x47], .bit0A),
   ([0xCB, 0x48], .bit1B), ([0xCB, 0x49], .bit1C), ([0xCB, 0x4A], .bit1D), ([0xCB, 0x4B], .bit1E),
   ([0xCB, 0x4C], .bit1H), ([0xCB, 0x4D], .bit1L), ([0xCB, 0x4E], .bit1AtHL), ([0xCB, 0x4F], .bit1A),
   ([0xCB, 0x50], .bit2B), ([0xCB, 0x51], .bit2C), ([0xCB, 0x52], .bit2D), ([0xCB, 0x53], .bit2E),
   ([0xCB, 0x54], .bit2H), ([0xCB, 0x55], .bit2L), ([0xCB, 0x56], .bit2AtHL), ([0xCB, 0x57], .bit2A),
   ([0xCB, 0x58], .bit3B), ([0xCB, 0x59], .bit3C), ([0xCB, 0x5A], .bit3D), ([0xCB, 0x5B], .bit3E),
   ([0xCB, 0x5C], .bit3H), ([0xCB, 0x5D], .bit3L), ([0xCB, 0x5E], .bit3AtHL), ([0xCB, 0x5F], .bit3A),
   ([0xCB, 0x60], .bit4B), ([0xCB, 0x61], .bit4C), ([0xCB, 0x62], .bit4D), ([0xCB, 0x63], .bit4E),
   ([0xCB, 0x64], .bit4H), ([0xCB, 0x65], .bit4L), ([0xCB, 0x66], .bit4AtHL), ([0xCB, 0x67], .bit4A),
   ([0xCB, 0x68], .bit5B), ([0xCB, 0x69], .bit5C), ([0xCB, 0x6A], .bit5D), ([0xCB, 0x6B], .bit5E),
   ([0xCB, 0x6C], .bit5H), ([0xCB, 0x6D], .bit5L), ([0xCB, 0x6E], .bit5AtHL), ([0xCB, 0x6F], .bit5A),
   ([0xCB, 0x70], .bit6B), ([0xCB, 0x71], .bit6C), ([0xCB, 0x72], .bit6D), ([0xCB, 0x73], .bit6E),
   ([0xCB, 0x74], .bit6H), ([0xCB, 0x75], .bit6L), ([0xCB, 0x76], .bit6AtHL), ([0xCB, 0x77], .bit6A),
   ([0xCB, 0x78], .bit7B), ([0xCB, 0x79], .bit7C), ([0xCB, 0x7A], .bit7D), ([0xCB, 0x7B], .bit7E),
   ([0xCB, 0x7C], .bit7H), ([0xCB, 0x7D], .bit7L), ([0xCB, 0x7E], .bit7AtHL), ([0xCB, 0x7F], .bit7A)]

def words6 : List (List Byte × Instr) :=
  [([0xCB, 0x80], .res0B), ([0xCB, 0x81], .res0C), ([0xCB, 0x82], .res0D), ([0xCB, 0x83], .res0E),
   ([0xCB, 0x84], .res0H), ([0xCB, 0x85], .res0L), ([0xCB, 0x86], .res0AtHL), ([0xCB, 0x87], .res0A),
   ([0xCB, 0x88], .res1B), ([0xCB, 0x89], .res1C), ([0xCB, 0x8A], .res1D), ([0xCB, 0x8B], .res1E),
   ([0xCB, 0x8C], .res1H), ([0xCB, 0x8D], .res1L), ([0xCB, 0x8E], .res1AtHL), ([0xCB, 0x8F], .res1A),
   ([0xCB, 0x90], .res2B), ([0xCB, 0x91], .res2C), ([0xCB, 0x92], .res2D), ([0xCB, 0x93], .res2E),
   ([0xCB, 0x94], .res2H), ([0xCB, 0x95], .res2L), ([0xCB, 0x96], .res2AtHL), ([0xCB, 0x97], .res2A),
   ([0xCB, 0x98], .res3B), ([0xCB, 0x99], .res3C), ([0xCB, 0x9A], .res3D), ([0xCB, 0x9B], .res3E),
   ([0xCB, 0x9C], .res3H), ([0xCB, 0x9D], .res3L), ([0xCB, 0x9E], .res3AtHL), ([0xCB, 0x9F], .res3A),
   ([0xCB, 0xA0], .res4B), ([0xCB, 0xA1], .res4C), ([0xCB, 0xA2], .res4D), ([0xCB, 0xA3], .res4E),
   ([0xCB, 0xA4], .res4H), ([0xCB, 0xA5], .res4L), ([0xCB, 0xA6], .res4AtHL), ([0xCB, 0xA7], .res4A),
   ([0xCB, 0xA8], .res5B), ([0xCB, 0xA9], .res5C), ([0xCB, 0xAA], .res5D), ([0xCB, 0xAB], .res5E),
   ([0xCB, 0xAC], .res5H), ([0xCB, 0xAD], .res5L), ([0xCB, 0xAE], .res5AtHL), ([0xCB, 0xAF], .res5A),
   ([0xCB, 0xB0], .res6B), ([0xCB, 0xB1], .res6C), ([0xCB, 0xB2], .res6D), ([0xCB, 0xB3], .res6E),
   ([0xCB, 0xB4], .res6H), ([0xCB, 0xB5], .res6L), ([0xCB, 0xB6], .res6AtHL), ([0xCB, 0xB7], .res6A),
   ([0xCB, 0xB8], .res7B), ([0xCB, 0xB9], .res7C), ([0xCB, 0xBA], .res7D), ([0xCB, 0xBB], .res7E),
   ([0xCB, 0xBC], .res7H), ([0xCB, 0xBD], .res7L), ([0xCB, 0xBE], .res7AtHL), ([0xCB, 0xBF], .res7A)]

def words7 : List (List Byte × Instr) :=
  [([0xCB, 0xC0], .set0B), ([0xCB, 0xC1], .set0C), ([0xCB, 0xC2], .set0D), ([0xCB, 0xC3], .set0E),
   ([0xCB, 0xC4], .set0H), ([0xCB, 0xC5], .set0L), ([0xCB, 0xC6], .set0AtHL), ([0xCB, 0xC7], .set0A),
   ([0xCB, 0xC8], .set1B), ([0xCB, 0xC9], .set1C), ([0xCB, 0xCA], .set1D), ([0xCB, 0xCB], .set1E),
   ([0xCB, 0xCC], .set1H), ([0xCB, 0xCD], .set1L), ([0xCB, 0xCE], .set1AtHL), ([0xCB, 0xCF], .set1A),
   ([0xCB, 0xD0], .set2B), ([0xCB, 0xD1], .set2C), ([0xCB, 0xD2], .set2D), ([0xCB, 0xD3], .set2E),
   ([0xCB, 0xD4], .set2H), ([0xCB, 0xD5], .set2L), ([0xCB, 0xD6], .set2AtHL), ([0xCB, 0xD7], .set2A),
   ([0xCB, 0xD8], .set3B), ([0xCB, 0xD9], .set3C), ([0xCB, 0xDA], .set3D), ([0xCB, 0xDB], .set3E),
   ([0xCB, 0xDC], .set3H), ([0xCB, 0xDD], .set3L), ([0xCB, 0xDE], .set3AtHL), ([0xCB, 0xDF], .set3A),
   ([0xCB, 0xE0], .set4B), ([0xCB, 0xE1], .set4C), ([0xCB, 0xE2], .set4D), ([0xCB, 0xE3], .set4E),
   ([0xCB, 0xE4], .set4H), ([0xCB, 0xE5], .set4L), ([0xCB, 0xE6], .set4AtHL), ([0xCB, 0xE7], .set4A),
   ([0xCB, 0xE8], .set5B), ([0xCB, 0xE9], .set5C), ([0xCB, 0xEA], .set5D), ([0xCB, 0xEB], .set5E),
   ([0xCB, 0xEC], .set5H), ([0xCB, 0xED], .set5L), ([0xCB, 0xEE], .set5AtHL), ([0xCB, 0xEF], .set5A),
   ([0xCB, 0xF0], .set6B), ([0xCB, 0xF1], .set6C), ([0xCB, 0xF2], .set6D), ([0xCB, 0xF3], .set6E),
   ([0xCB, 0xF4], .set6H), ([0xCB, 0xF5], .set6L), ([0xCB, 0xF6], .set6AtHL), ([0xCB, 0xF7], .set6A),
   ([0xCB, 0xF8], .set7B), ([0xCB, 0xF9], .set7C), ([0xCB, 0xFA], .set7D), ([0xCB, 0xFB], .set7E),
   ([0xCB, 0xFC], .set7H), ([0xCB, 0xFD], .set7L), ([0xCB, 0xFE], .set7AtHL), ([0xCB, 0xFF], .set7A)]

theorem test_words0 : (words0.map fun w => decode w.1) = words0.map fun w => .instr w.2 [] := by decide

theorem test_words1 : (words1.map fun w => decode w.1) = words1.map fun w => .instr w.2 [] := by decide

theorem test_words2 : (words2.map fun w => decode w.1) = words2.map fun w => .instr w.2 [] := by decide

theorem test_words3 : (words3.map fun w => decode w.1) = words3.map fun w => .instr w.2 [] := by decide

theorem test_words4 : (words4.map fun w => decode w.1) = words4.map fun w => .instr w.2 [] := by decide

theorem test_words5 : (words5.map fun w => decode w.1) = words5.map fun w => .instr w.2 [] := by decide

theorem test_words6 : (words6.map fun w => decode w.1) = words6.map fun w => .instr w.2 [] := by decide

theorem test_words7 : (words7.map fun w => decode w.1) = words7.map fun w => .instr w.2 [] := by decide

/-! The start states of 95_test_vectors.md: the machine at reset with a few fields changed. -/

abbrev R : State := State.reset

def wramByte (s : State) (i : Nat) (v : Byte) : State := { s with wram := s.wram.write i v }

def hramByte (s : State) (i : Nat) (v : Byte) : State := { s with hram := s.hram.write i v }

def vramByte (s : State) (i : Nat) (v : Byte) : State := { s with ppu := { s.ppu with vram := s.ppu.vram.write i v } }

def oamByte (s : State) (i : Nat) (v : Byte) : State := { s with ppu := { s.ppu with oam := s.ppu.oam.write i v } }

def inMode (s : State) (m : PpuMode) : State := { s with ppu := { s.ppu with mode := m } }

def displayOff (s : State) : State := { s with ppu := { s.ppu with lcdc := 0x11, mode := .hblank } }

def line (s : State) (v : Byte) : State := { s with ppu := { s.ppu with ly := v } }

def jsel (s : State) (v : Byte) : State := { s with joy := { s.joy with jsel := v } }

def divc (s : State) (v : Word) : State := { s with timer := { s.timer with divc := v } }

def tim (s : State) (tac : BitVec 3) (tima tma : Byte) : State :=
  { s with timer := { s.timer with tac := tac, tima := tima, tma := tma } }

def irq (s : State) (ime : Bool) (ie ifr : Byte) : State := { s with ime := ime, ie := ie, ifr := ifr }

/-- The cartridge `c` in place of the reset one. -/
def withCart (s : State) (nbanks cramSize : Nat) (lo : BitVec 5) (hi : BitVec 2) (bmode ramen : Bool) : State :=
  { s with cart := { s.cart with nbanks := nbanks, cramSize := cramSize, lo := lo, hi := hi, bmode := bmode, ramen := ramen } }

/-- What one step from `s` leaves, with the bytes `bs` where it fetches. -/
def after {α : Type} (s : State) (bs : List Byte) (see : State → α) : Option α :=
  match step (placeInstr s bs) with
  | .next t => some (see t)
  | _ => none

/-- The same word stored by withFetchWord runs as the first instruction after reset: LD A,n with n = 0. -/
theorem test_withFetchWord : (match step (State.reset.withFetchWord 8 0x3E) with
    | .next t => some (t.regs.a, t.regs.pc, t.cyc)
    | _ => none) = some (0x00, 0x0102, 8) := by decide

theorem test_withFetchWord_cb : (match step (State.reset.withFetchWord 16 0xCB37) with
    | .next t => some (t.regs.a, t.regs.pc, t.cyc)
    | _ => none) = some (0x10, 0x0102, 8) := by decide

/-! One step each, by the vectors' ids. -/

theorem test_VL1 : after (R.setReg .c 0x42) [0x41] (fun t => (t.regs.b, t.cyc)) =
    some (0x42, 4) := by decide

theorem test_VL3 : after R [0x3E, 0x5A] (fun t => (t.regs.a, t.cyc)) =
    some (0x5A, 8) := by decide

theorem test_VL5 : after (wramByte (R.setHl 0xC000) 0 0x12) [0x66] (fun t => (t.regs.h, t.regs.l, t.cyc)) =
    some (0x12, 0x00, 8) := by decide

theorem test_VL6 : after (inMode (vramByte (R.setHl 0x8000) 0 0x33) .transfer) [0x7E] (fun t => (t.regs.a, t.cyc)) =
    some (0xFF, 8) := by decide

theorem test_VL8 : after (displayOff (oamByte (R.setHl 0xFE00) 0 0x33)) [0x7E] (fun t => (t.regs.a, t.cyc)) =
    some (0x33, 8) := by decide

theorem test_VL9 :
    after (inMode ((R.setHl 0x9800).setReg .a 0x01) .transfer) [0x77]
      (fun t => (t.ppu.vram.read 0x1800, t.cyc)) = some (0x00, 8) := by decide

theorem test_VL10 : after (R.setHl 0xFF80) [0x36, 0x42] (fun t => (t.hram.read 0, t.cyc)) =
    some (0x42, 12) := by decide

theorem test_VL12 : after (line (R.setDe 0xFF44) 0x90) [0x1A] (fun t => (t.regs.a, t.cyc)) =
    some (0x90, 8) := by decide

theorem test_VL13 : after ((R.setBc 0x2000).setReg .a 0x05) [0x02] (fun t => (t.cart.lo, t.cart.rom.byte 0x2000, t.cyc)) =
    some (5, 0x00, 8) := by decide

theorem test_VL14 : after (line (R.setReg .a 0x10) 0x22) [0xEA, 0x44, 0xFF] (fun t => (t.ppu.ly, t.cyc)) =
    some (0x22, 16) := by decide

theorem test_VL15 : after (jsel R 0xEF) [0xF0, 0x00] (fun t => (t.regs.a, t.cyc)) =
    some (0xEF, 12) := by decide

theorem test_VL16 : after (R.setReg .a 0x05) [0xE0, 0x07] (fun t => (t.timer.tac, t.cyc)) =
    some (0b101, 12) := by decide

theorem test_VL17 : after (R.setReg .a 0x7F) [0xE0, 0x46] (fun t => t.fault) =
    some (some (.configError 0x7F)) := by decide

theorem test_VL20 : after ((R.setReg .c 0x80).setReg .a 0x3C) [0xE2] (fun t => (t.hram.read 0, t.cyc)) =
    some (0x3C, 8) := by decide

theorem test_VL22 : after ((R.setHl 0xFFFF).setReg .a 0x1F) [0x22] (fun t => (t.ie, t.hl, t.cyc)) =
    some (0x1F, 0x0000, 8) := by decide

theorem test_VL23 : after (wramByte (R.setHl 0xC000) 0 0x44) [0x3A] (fun t => (t.regs.a, t.hl, t.cyc)) =
    some (0x44, 0xBFFF, 8) := by decide

theorem test_VL24 : after R [0x31, 0xF0, 0xDF] (fun t => (t.regs.sp, t.cyc)) =
    some (0xDFF0, 12) := by decide

theorem test_VL25 : after (R.setSp 0xFFF8) [0x08, 0x00, 0xC1] (fun t => (t.wram.read 0x100, t.wram.read 0x101, t.cyc)) =
    some (0xF8, 0xFF, 20) := by decide

theorem test_VL26 : after (R.setHl 0xC123) [0xF9] (fun t => (t.regs.sp, t.cyc)) =
    some (0xC123, 8) := by decide

theorem test_VL28 : after (R.setSp 0x0001) [0xF8, 0xFF] (fun t => (t.hl, t.regs.f, t.cyc)) =
    some (0x0000, 0x30, 12) := by decide

theorem test_VL29 : after (R.setSp 0x000F) [0xF8, 0x01] (fun t => (t.hl, t.regs.f, t.cyc)) =
    some (0x0010, 0x20, 12) := by decide

theorem test_VL30 : after (R.setDe 0xBEEF) [0xD5] (fun t => (t.hram.read 0x7D, t.hram.read 0x7C, t.regs.sp, t.cyc)) =
    some (0xBE, 0xEF, 0xFFFC, 16) := by decide

theorem test_VL31 :
    after (hramByte (hramByte (R.setSp 0xFFFC) 0x7C 0xFF) 0x7D 0x12) [0xF1]
      (fun t => (t.af, t.regs.sp, t.cyc)) = some (0x12F0, 0xFFFE, 12) := by decide

theorem test_VL32 : after ((R.setSp 0x0001).setBc 0x0A0B) [0xC5] (fun t => (t.cart.ramen, t.ie, t.regs.sp, t.cyc)) =
    some (true, 0x0B, 0xFFFF, 16) := by decide

theorem test_VA1 : after ((R.setReg .a 0x3A).setF 0x00) [0xC6, 0xC6] (fun t => (t.regs.a, t.regs.f, t.cyc)) =
    some (0x00, 0xB0, 8) := by decide

theorem test_VA2 : after (((R.setReg .a 0x0F).setReg .b 0x01).setF 0x00) [0x80] (fun t => (t.regs.a, t.regs.f, t.cyc)) =
    some (0x10, 0x20, 4) := by decide

theorem test_VA3 : after (((R.setReg .a 0x80).setReg .b 0x80).setF 0x00) [0x80] (fun t => (t.regs.a, t.regs.f, t.cyc)) =
    some (0x00, 0x90, 4) := by decide

theorem test_VA4 : after (((R.setReg .a 0xE1).setReg .b 0x0F).setF 0x10) [0x88] (fun t => (t.regs.a, t.regs.f, t.cyc)) =
    some (0xF1, 0x20, 4) := by decide

theorem test_VA5 : after (((R.setReg .a 0xFF).setReg .b 0x00).setF 0x10) [0x88] (fun t => (t.regs.a, t.regs.f, t.cyc)) =
    some (0x00, 0xB0, 4) := by decide

theorem test_VA7 : after (((R.setReg .a 0x3E).setReg .b 0x0F).setF 0x00) [0x90] (fun t => (t.regs.a, t.regs.f, t.cyc)) =
    some (0x2F, 0x60, 4) := by decide

theorem test_VA9 : after (((R.setReg .a 0x00).setReg .b 0x01).setF 0x00) [0x90] (fun t => (t.regs.a, t.regs.f, t.cyc)) =
    some (0xFF, 0x70, 4) := by decide

theorem test_VA10 : after (((R.setReg .a 0x3B).setReg .b 0x2A).setF 0x10) [0x98] (fun t => (t.regs.a, t.regs.f, t.cyc)) =
    some (0x10, 0x40, 4) := by decide

theorem test_VA11 : after (((R.setReg .a 0x00).setReg .b 0xFF).setF 0x10) [0x98] (fun t => (t.regs.a, t.regs.f, t.cyc)) =
    some (0x00, 0xF0, 4) := by decide

theorem test_VA12 : after (((R.setReg .a 0x5A).setReg .b 0x3F).setF 0x10) [0xA0] (fun t => (t.regs.a, t.regs.f, t.cyc)) =
    some (0x1A, 0x20, 4) := by decide

theorem test_VA14 : after ((R.setReg .a 0x5A).setF 0xF0) [0xAF] (fun t => (t.regs.a, t.regs.f, t.cyc)) =
    some (0x00, 0x80, 4) := by decide

theorem test_VA15 : after (((R.setReg .a 0x5A).setReg .b 0x0F).setF 0x10) [0xB0] (fun t => (t.regs.a, t.regs.f, t.cyc)) =
    some (0x5F, 0x00, 4) := by decide

theorem test_VA16 : after (((R.setReg .a 0x3C).setReg .b 0x40).setF 0x00) [0xB8] (fun t => (t.regs.a, t.regs.f, t.cyc)) =
    some (0x3C, 0x50, 4) := by decide

theorem test_VA17 : after ((R.setReg .a 0x3C).setF 0x00) [0xFE, 0x3C] (fun t => (t.regs.a, t.regs.f, t.cyc)) =
    some (0x3C, 0xC0, 8) := by decide

theorem test_VA18 : after (((R.setReg .a 0x3C).setReg .b 0x2F).setF 0x00) [0xB8] (fun t => (t.regs.a, t.regs.f, t.cyc)) =
    some (0x3C, 0x60, 4) := by decide

theorem test_VA4hl :
    after (wramByte (((R.setReg .a 0xE1).setF 0x10).setHl 0xC000) 0 0x0F) [0x8E]
      (fun t => (t.regs.a, t.regs.f, t.cyc)) = some (0xF1, 0x20, 8) := by decide

theorem test_VA19 : after ((R.setReg .a 0xFF).setF 0x10) [0x3C] (fun t => (t.regs.a, t.regs.f, t.cyc)) =
    some (0x00, 0xB0, 4) := by decide

theorem test_VA22 : after ((R.setReg .b 0x00).setF 0x00) [0x05] (fun t => (t.regs.b, t.regs.f, t.cyc)) =
    some (0xFF, 0x60, 4) := by decide

theorem test_VA24 :
    after (wramByte ((R.setF 0x00).setHl 0xC000) 0 0xFF) [0x34]
      (fun t => (t.wram.read 0, t.regs.f, t.cyc)) = some (0x00, 0xA0, 12) := by decide

theorem test_VA25 : after ((R.setF 0x00).setHl 0xC000) [0x35] (fun t => (t.wram.read 0, t.regs.f, t.cyc)) =
    some (0xFF, 0x60, 12) := by decide

theorem test_VA26 : after ((divc (R.setHl 0xFF04) 0x1234).setF 0x00) [0x34] (fun t => (t.timer.divc, t.regs.f, t.cyc)) =
    some (0x000C, 0x00, 12) := by decide

theorem test_VW1 : after ((R.setBc 0xFFFF).setF 0xF0) [0x03] (fun t => (t.bc, t.regs.f, t.cyc)) =
    some (0x0000, 0xF0, 8) := by decide

theorem test_VW3 : after (R.setSp 0) [0x3B] (fun t => (t.regs.sp, t.cyc)) =
    some (0xFFFF, 8) := by decide

theorem test_VW4 : after (((R.setHl 0x8A23).setBc 0x0605).setF 0x80) [0x09] (fun t => (t.hl, t.regs.f, t.cyc)) =
    some (0x9028, 0xA0, 8) := by decide

theorem test_VW5 : after ((R.setHl 0x8A23).setF 0x00) [0x29] (fun t => (t.hl, t.regs.f, t.cyc)) =
    some (0x1446, 0x30, 8) := by decide

theorem test_VW6 : after ((R.setHl 0x8000).setF 0x00) [0x29] (fun t => (t.hl, t.regs.f, t.cyc)) =
    some (0x0000, 0x10, 8) := by decide

theorem test_VW9 : after (R.setSp 0x00FF) [0xE8, 0x01] (fun t => (t.regs.sp, t.regs.f, t.cyc)) =
    some (0x0100, 0x30, 16) := by decide

theorem test_VW10 : after ((R.setSp 0).setF 0xF0) [0xE8, 0xFF] (fun t => (t.regs.sp, t.regs.f, t.cyc)) =
    some (0xFFFF, 0x00, 16) := by decide

theorem test_VD1 : after ((R.setReg .a 0x9A).setF 0x00) [0x27] (fun t => (t.regs.a, t.regs.f, t.cyc)) =
    some (0x00, 0x90, 4) := by decide

theorem test_VD3 : after ((R.setReg .a 0x4B).setF 0x60) [0x27] (fun t => (t.regs.a, t.regs.f, t.cyc)) =
    some (0x45, 0x40, 4) := by decide

theorem test_VD9 : after ((R.setReg .a 0x35).setF 0x90) [0x2F] (fun t => (t.regs.a, t.regs.f, t.cyc)) =
    some (0xCA, 0xF0, 4) := by decide

theorem test_VD10 : after ((R.setReg .a 0x01).setF 0xE0) [0x37] (fun t => (t.regs.a, t.regs.f, t.cyc)) =
    some (0x01, 0x90, 4) := by decide

theorem test_VD11 : after ((R.setReg .a 0x01).setF 0x10) [0x3F] (fun t => (t.regs.a, t.regs.f, t.cyc)) =
    some (0x01, 0x00, 4) := by decide

theorem test_VD12 : after ((R.setReg .a 0x01).setF 0xE0) [0x3F] (fun t => (t.regs.a, t.regs.f, t.cyc)) =
    some (0x01, 0x90, 4) := by decide

theorem test_VD13 : after ((R.setReg .a 0x85).setF 0x80) [0x07] (fun t => (t.regs.a, t.regs.f, t.cyc)) =
    some (0x0B, 0x10, 4) := by decide

theorem test_VD14 : after ((R.setReg .a 0x01).setF 0x00) [0x0F] (fun t => (t.regs.a, t.regs.f, t.cyc)) =
    some (0x80, 0x10, 4) := by decide

theorem test_VD15 : after ((R.setReg .a 0x80).setF 0x00) [0x17] (fun t => (t.regs.a, t.regs.f, t.cyc)) =
    some (0x00, 0x10, 4) := by decide

theorem test_VD16 : after ((R.setReg .a 0x01).setF 0x10) [0x1F] (fun t => (t.regs.a, t.regs.f, t.cyc)) =
    some (0x80, 0x10, 4) := by decide

theorem test_VD17 : after ((R.setReg .a 0x00).setF 0x10) [0x1F] (fun t => (t.regs.a, t.regs.f, t.cyc)) =
    some (0x80, 0x00, 4) := by decide

theorem test_VC1 : after (R.setPc 0x0200) [0xC3, 0x34, 0x12] (fun t => (t.regs.pc, t.cyc)) =
    some (0x1234, 16) := by decide

theorem test_VC2 : after ((R.setPc 0x0200).setF 0x80) [0xCA, 0x34, 0x12] (fun t => (t.regs.pc, t.cyc)) =
    some (0x1234, 16) := by decide

theorem test_VC3 : after ((R.setPc 0x0200).setF 0x00) [0xCA, 0x34, 0x12] (fun t => (t.regs.pc, t.cyc)) =
    some (0x0203, 12) := by decide

theorem test_VC4 : after ((R.setPc 0x0200).setHl 0x4000) [0xE9] (fun t => (t.regs.pc, t.cyc)) =
    some (0x4000, 4) := by decide

theorem test_VC5 : after (R.setPc 0x0200) [0x18, 0x80] (fun t => (t.regs.pc, t.cyc)) =
    some (0x0182, 12) := by decide

theorem test_VC7 : after (R.setPc 0xFFF0) [0x18, 0x7F] (fun t => (t.regs.pc, t.cyc)) =
    some (0x0071, 12) := by decide

theorem test_VC8 : after ((R.setPc 0x0200).setF 0x10) [0x30, 0x05] (fun t => (t.regs.pc, t.cyc)) =
    some (0x0202, 8) := by decide

theorem test_VC9 : after ((R.setPc 0x0200).setF 0x00) [0x38, 0x05] (fun t => (t.regs.pc, t.cyc)) =
    some (0x0202, 8) := by decide

theorem test_VC10 : after ((R.setPc 0x0200).setF 0x10) [0x38, 0x05] (fun t => (t.regs.pc, t.cyc)) =
    some (0x0207, 12) := by decide

theorem test_VC11 :
    after (R.setPc 0x0200) [0xCD, 0x00, 0x30]
      (fun t => (t.hram.read 0x7D, t.hram.read 0x7C, t.regs.sp, t.regs.pc, t.cyc)) = some (0x02, 0x03, 0xFFFC, 0x3000, 24) := by decide

theorem test_VC12 :
    after ((R.setPc 0x0200).setF 0x00) [0xC4, 0x00, 0x30]
      (fun t => (t.hram.read 0x7D, t.hram.read 0x7C, t.regs.sp, t.regs.pc, t.cyc)) = some (0x02, 0x03, 0xFFFC, 0x3000, 24) := by decide

theorem test_VC13 : after ((R.setPc 0x0200).setF 0x80) [0xC4, 0x00, 0x30] (fun t => (t.regs.pc, t.regs.sp, t.cyc)) =
    some (0x0203, 0xFFFE, 12) := by decide

theorem test_VC14 :
    after (hramByte (hramByte ((R.setPc 0x3000).setSp 0xFFFC) 0x7C 0x03) 0x7D 0x02) [0xC9]
      (fun t => (t.regs.pc, t.regs.sp, t.cyc)) = some (0x0203, 0xFFFE, 16) := by decide

theorem test_VC15 :
    after ((hramByte (hramByte ((R.setPc 0x3000).setSp 0xFFFC) 0x7C 0x03) 0x7D 0x02).setF 0x10) [0xD8]
      (fun t => (t.regs.pc, t.regs.sp, t.cyc)) = some (0x0203, 0xFFFE, 20) := by decide

theorem test_VC16 :
    after ((hramByte (hramByte ((R.setPc 0x3000).setSp 0xFFFC) 0x7C 0x03) 0x7D 0x02).setF 0x00) [0xD8]
      (fun t => (t.regs.pc, t.regs.sp, t.cyc)) = some (0x3001, 0xFFFC, 8) := by decide

theorem test_VC17 :
    after (irq (hramByte (hramByte ((R.setPc 0x3000).setSp 0xFFFC) 0x7C 0x03) 0x7D 0x02) false 0x01 0x01) [0xD9]
      (fun t => ([t.hram.read 0x7D, t.hram.read 0x7C], t.ifr, t.ime, t.regs.sp, t.regs.pc, t.cyc)) = some ([0x02, 0x03], 0x00, false, 0xFFFC, 0x0040, 32) := by decide

theorem test_VC18 :
    after (R.setPc 0x0200) [0xFF]
      (fun t => (t.hram.read 0x7D, t.hram.read 0x7C, t.regs.sp, t.regs.pc, t.cyc)) = some (0x02, 0x01, 0xFFFC, 0x0038, 16) := by decide

theorem test_VC19 : after (R.setPc 0x0200) [0xC7] (fun t => (t.hram.read 0x7C, t.regs.pc, t.cyc)) =
    some (0x01, 0x0000, 16) := by decide

theorem test_VC20 :
    after ((R.setPc 0x0200).setSp 0x0001) [0xCD, 0x00, 0x30]
      (fun t => (t.cart.ramen, t.ie, t.regs.sp, t.cyc)) = some (false, 0x03, 0xFFFF, 24) := by decide

theorem test_VK1 : after ((R.setReg .b 0x85).setF 0x00) [0xCB, 0x00] (fun t => (t.regs.b, t.regs.f, t.cyc)) =
    some (0x0B, 0x10, 8) := by decide

theorem test_VK2 :
    after ((wramByte (R.setHl 0xC000) 0 0x00).setF 0x10) [0xCB, 0x06]
      (fun t => (t.wram.read 0, t.regs.f, t.cyc)) = some (0x00, 0x80, 16) := by decide

theorem test_VK3 : after ((R.setReg .c 0x01).setF 0x00) [0xCB, 0x09] (fun t => (t.regs.c, t.regs.f, t.cyc)) =
    some (0x80, 0x10, 8) := by decide

theorem test_VK4 : after ((R.setReg .d 0x80).setF 0x00) [0xCB, 0x12] (fun t => (t.regs.d, t.regs.f, t.cyc)) =
    some (0x00, 0x90, 8) := by decide

theorem test_VK5 : after ((R.setReg .d 0x11).setF 0x10) [0xCB, 0x12] (fun t => (t.regs.d, t.regs.f, t.cyc)) =
    some (0x23, 0x00, 8) := by decide

theorem test_VK6 : after ((R.setReg .e 0x01).setF 0x00) [0xCB, 0x1B] (fun t => (t.regs.e, t.regs.f, t.cyc)) =
    some (0x00, 0x90, 8) := by decide

theorem test_VK7 : after ((R.setReg .e 0x8A).setF 0x10) [0xCB, 0x1B] (fun t => (t.regs.e, t.regs.f, t.cyc)) =
    some (0xC5, 0x00, 8) := by decide

theorem test_VK8 : after ((R.setReg .h 0x80).setF 0x00) [0xCB, 0x24] (fun t => (t.regs.h, t.regs.f, t.cyc)) =
    some (0x00, 0x90, 8) := by decide

theorem test_VK11 : after ((R.setReg .l 0x01).setF 0x00) [0xCB, 0x2D] (fun t => (t.regs.l, t.regs.f, t.cyc)) =
    some (0x00, 0x90, 8) := by decide

theorem test_VK12 : after ((R.setReg .l 0x81).setF 0x00) [0xCB, 0x2D] (fun t => (t.regs.l, t.regs.f, t.cyc)) =
    some (0xC0, 0x10, 8) := by decide

theorem test_VK13 : after ((R.setReg .a 0xF0).setF 0x10) [0xCB, 0x37] (fun t => (t.regs.a, t.regs.f, t.cyc)) =
    some (0x0F, 0x00, 8) := by decide

theorem test_VK15 : after ((R.setReg .a 0xFF).setF 0x00) [0xCB, 0x3F] (fun t => (t.regs.a, t.regs.f, t.cyc)) =
    some (0x7F, 0x10, 8) := by decide

theorem test_VK17 : after ((R.setReg .h 0x80).setF 0x10) [0xCB, 0x7C] (fun t => (t.regs.h, t.regs.f, t.cyc)) =
    some (0x80, 0x30, 8) := by decide

theorem test_VK18 : after ((R.setReg .h 0x80).setF 0x50) [0xCB, 0x44] (fun t => (t.regs.h, t.regs.f, t.cyc)) =
    some (0x80, 0xB0, 8) := by decide

theorem test_VK19 :
    after ((wramByte (R.setHl 0xC000) 0 0x01).setF 0x00) [0xCB, 0x46]
      (fun t => (t.wram.read 0, t.regs.f, t.cyc)) = some (0x01, 0x20, 12) := by decide

theorem test_VK20 : after ((R.setReg .a 0xFF).setF 0x00) [0xCB, 0xBF] (fun t => (t.regs.a, t.regs.f, t.cyc)) =
    some (0x7F, 0x00, 8) := by decide

theorem test_VK21 :
    after ((wramByte (R.setHl 0xC000) 0 0xFF).setF 0x00) [0xCB, 0x86]
      (fun t => (t.wram.read 0, t.regs.f, t.cyc)) = some (0xFE, 0x00, 16) := by decide

theorem test_VK22 : after ((R.setReg .b 0x00).setF 0xF0) [0xCB, 0xC0] (fun t => (t.regs.b, t.regs.f, t.cyc)) =
    some (0x01, 0xF0, 8) := by decide

theorem test_VK23 :
    after ((wramByte (R.setHl 0xC000) 0 0x00).setF 0x00) [0xCB, 0xDE]
      (fun t => (t.wram.read 0, t.regs.f, t.cyc)) = some (0x08, 0x00, 16) := by decide

theorem test_VY1 : after (R.setPc 0x0200) [0x00] (fun t => (t.regs.pc, t.cyc)) =
    some (0x0201, 4) := by decide

theorem test_VY2 : after (irq (R.setPc 0x0200) false 0x01 0x01) [0x76] (fun t => (t.halted, t.regs.pc, t.cyc)) =
    some (false, 0x0201, 4) := by decide

theorem test_VY3 : after (irq (R.setPc 0x0200) true 0x00 0x00) [0x76] (fun t => (t.halted, t.regs.pc, t.cyc)) =
    some (true, 0x0201, 4) := by decide

theorem test_VY6 : after (R.setPc 0x0200) [0x10, 0x00] (fun t => (t.regs.pc, t.fault, t.cyc)) =
    some (0x0202, none, 8) := by decide

theorem test_VY7 : after (R.setPc 0x0200) [0x10, 0x01] (fun t => t.fault) =
    some (some (.decodeError 0x0200 0x01)) := by decide

theorem test_VY8 : after (irq (R.setPc 0x0200) true 0x00 0x00) [0xF3] (fun t => (t.ime, t.cyc)) =
    some (false, 4) := by decide

theorem test_VY9 :
    after (irq (R.setPc 0x010C) false 0x04 0x04) [0xFB]
      (fun t => (t.hram.read 0x7D, t.hram.read 0x7C, t.regs.pc, t.ime, t.ifr, t.cyc)) = some (0x01, 0x0D, 0x0050, false, 0x00, 20) := by decide

theorem test_VY10 : after (R.setPc 0x0200) [0xD3] (fun t => t.fault) =
    some (some (.decodeError 0x0200 0xD3)) := by decide

theorem test_VY11_DB : after (R.setPc 0x0200) [0xDB] (fun t => t.fault) =
    some (some (.decodeError 0x0200 0xDB)) := by decide

theorem test_VY11_FD : after (R.setPc 0x0200) [0xFD] (fun t => t.fault) =
    some (some (.decodeError 0x0200 0xFD)) := by decide

theorem test_VI1 :
    after (irq (R.setPc 0x0150) true 0x1F 0x06) [0x00]
      (fun t => ([t.hram.read 0x7D, t.hram.read 0x7C], t.ifr, t.regs.pc, t.regs.sp, t.ime, t.cyc)) = some ([0x01, 0x51], 0x04, 0x0048, 0xFFFC, false, 20) := by decide

theorem test_VI2 :
    after (irq (R.setPc 0x0150) true 0x10 0x1F) [0x00]
      (fun t => ([t.hram.read 0x7D, t.hram.read 0x7C], t.ifr, t.regs.pc, t.regs.sp, t.ime, t.cyc)) = some ([0x01, 0x51], 0x0F, 0x0060, 0xFFFC, false, 20) := by decide

theorem test_VI4 : after (irq (R.setPc 0x0150) false 0x1F 0x1F) [0x00] (fun t => (t.ifr, t.regs.pc, t.cyc)) =
    some (0x1F, 0x0151, 4) := by decide

theorem test_VI6 : after (irq (R.setPc 0x0150) true 0xE0 0xE0) [0x00] (fun t => (t.ifr, t.regs.pc, t.cyc)) =
    some (0xE0, 0x0151, 4) := by decide

/-- VY4: the halted step costs 4 cycles and fetches nothing. -/
theorem test_VY4 : (match step { R with halted := true, ime := true } with
    | .next t => some (t.halted, t.regs.pc, t.cyc, t.timer.divc, t.ppu.pcnt)
    | _ => none) = some (true, 0x0100, 4, 4, 4) := by decide

/-- VY5: the device advance of a halted step wakes it in the same step. -/
theorem test_VY5 :
    let p : Ppu := { R.ppu with ly := 143, mode := .hblank, pcnt := 200 }
    (match step { irq (R.setPc 0x0201) true 0x01 0x00 with halted := true, ppu := p } with
    | .next t => some (t.halted, t.ifr, t.regs.pc, [t.hram.read 0x7D, t.hram.read 0x7C], t.cyc)
    | _ => none) = some (false, 0x00, 0x0040, [0x02, 0x01], 20) := by decide

/-- VY12: a held fault is answered by every later step. -/
theorem test_VY12 : step { R with fault := some (.configError 0x7F) } = .fault (.configError 0x7F) := rfl

/-- The last two bytes of VL18's copy: 8 cycles a byte, with OAM open. -/
theorem test_oamDma : (match oamDmaFrom 0xC0 2 158 (displayOff (wramByte (wramByte R 158 0x11) 159 0x22)) with
    | .ok _ t => some (t.ppu.oam.read 157, t.ppu.oam.read 158, t.ppu.oam.read 159, t.cyc)
    | .error _ _ => none) = some (0x00, 0x11, 0x22, 16) := by decide

/-! The devices. -/

/-- VT1 and VT4. -/
theorem test_timer_overflow : (timerUpdate 16 (tim R 0b101 0xFF 0x42)).timer = { divc := 0x0010, tima := 0x42, tma := 0x42, tac := 0b101 } ∧
    (timerUpdate 16 (tim R 0b101 0xFF 0x42)).ifr = 0x04 ∧
    (timerUpdate 16 (divc (tim R 0b101 0x00 0x00) 0xFFF8)).timer.tima = 0x01 := by decide

/-- VT5: two increments after the overflow, one request. -/
theorem test_timer_several : ((timerUpdate 48 (tim R 0b101 0xFE 0x10)).timer.tima, (timerUpdate 48 (tim R 0b101 0xFE 0x10)).ifr) =
    (0x12, 0x04) := by decide

/-- VP4 and VP7: the mode-2 request and the LY==LYC request. -/
theorem test_stat_requests :
    let s (staten : BitVec 4) (lyc : Byte) : State :=
      { R with ppu := { R.ppu with ly := 5, mode := .hblank, pcnt := 200, staten := staten, lyc := lyc } }
    ((ppuUpdate 8 (s 0b0100 0x50)).ppu.pcnt, (ppuUpdate 8 (s 0b0100 0x50)).ifr) = (4, 0x02) ∧
    (ppuUpdate 8 (s 0b0001 0x50)).ifr = 0x00 ∧
    ((ppuUpdate 8 (s 0b1000 6)).ppu.coinc, (ppuUpdate 8 (s 0b1000 6)).ifr) = (true, 0x02) := by decide

/-- VP10 and VP11: V-Blank is requested once, with the mode-1 request. -/
theorem test_vblank :
    let s (ly : Byte) (m : PpuMode) (pcnt : Word) : State :=
      { R with ppu := { R.ppu with ly := ly, mode := m, pcnt := pcnt, staten := 0b0010 } }
    ((ppuUpdate 4 (s 143 .hblank 200)).ppu.ly, (ppuUpdate 4 (s 143 .hblank 200)).ifr) = (144, 0x03) ∧
    ((ppuUpdate 4 (s 144 .vblank 452)).ppu.ly, (ppuUpdate 4 (s 144 .vblank 452)).ifr) = (145, 0x00) := by decide

/-- VP12: the wrap to line 0 compares LY with LYC. -/
theorem test_frame_wrap :
    let t := ppuUpdate 4 { R with ppu := { R.ppu with ly := 153, mode := .vblank, pcnt := 452, staten := 0b1000 } }
    (t.ppu.ly, t.ppu.mode, t.ppu.coinc, t.ifr) = (0, .oamScan, true, 0x02) := by decide

/-- VP15 and VP17: the display toggle. -/
theorem test_display_toggle :
    let s : State := { R with ppu := { R.ppu with ly := 50, mode := .transfer, pcnt := 100, staten := 0b0001 } }
    ((lcdcWrite 0x11 s).ppu.mode, (lcdcWrite 0x11 s).ppu.ly, (lcdcWrite 0x11 s).ppu.pcnt, (lcdcWrite 0x11 s).ifr) =
      (.hblank, 0, 0, 0x02) ∧
    ((lcdcWrite 0x91 (lcdcWrite 0x11 s)).ppu.mode, (lcdcWrite 0x91 (lcdcWrite 0x11 s)).ifr) = (.oamScan, 0x02) := by decide

/-- VP19: a read of STAT. -/
theorem test_stat_read : statRead { R.ppu with coinc := true, staten := 0b1000 } = 0x46 := by decide

/-- The PPU of VR1: tile 1 at map (0, 0), colour 1 in its first row. -/
def tiles (lcdc bgp scx wy wx : Byte) : Ppu :=
  { R.ppu with lcdc := lcdc, bgp := bgp, scx := scx, wy := wy, wx := wx, vram := [(0x0010, 0xFF), (0x1800, 0x01)] }

/-- VR1, VR3, VR4: the background and its horizontal wrap, at the columns where it changes. -/
theorem test_render_background :
    let row (p : Ppu) (xs : List Nat) : List Byte := xs.map fun x => shade p.bgp (backgroundPixel p 0 x)
    row (tiles 0x91 0xE4 0 0 0) [0, 7, 8, 159] = [0xAA, 0xAA, 0xFF, 0xFF] ∧
    row (tiles 0x91 0xE4 4 0 0) [0, 3, 4] = [0xAA, 0xAA, 0xFF] ∧
    row (tiles 0x91 0xE4 0xFC 0 0) [3, 4, 11, 12] = [0xFF, 0xAA, 0xAA, 0xFF] := by decide

/-- VR6: with LCDC bit 4 clear tile 1 is read from 0x9010. -/
theorem test_render_signed_tiles : backgroundPixel (tiles 0x81 0xE4 0 0 0) 0 0 = 0 ∧
    backgroundPixel { tiles 0x81 0xE4 0 0 0 with vram := [(0x1010, 0xFF), (0x1800, 0x01)] } 0 0 = 1 := by decide

/-- VR7: the window starts at column WX - 7 = 80. -/
theorem test_render_window : (lineColours (tiles 0xB1 0xE4 8 0 87) 0 12 78 false) = [0, 0, 1, 1, 1, 1, 1, 1, 1, 1, 0, 0] := by decide

/-- VM3 to VM7, and the case R97 overlooks (log 12). -/
theorem test_effBank : [effBank (withCart R 128 0 0 1 false false).cart, effBank (withCart R 4 0 0 1 false false).cart,
      effBank (withCart R 128 0 0 1 true false).cart, effBank (withCart R 4 0 5 0 false false).cart,
      effBank (withCart R 2 0 2 0 false false).cart] = [0x21, 1, 1, 1, 0] := by decide

/-- VM8: only a low nibble of 0xA enables external RAM. -/
theorem test_ramEnable : [0x0A, 0x1A, 0x00, 0xA0, 0x0B].map (fun v => match cartWrite R.cart 0x0000 v with
    | .ok c => c.ramen
    | .error _ => false) = [true, true, false, false, false] := by decide

/-- VM10: enabled external RAM of size 0. -/
theorem test_ram_bounds : busRead (withCart R 2 0 0 0 false true) 0xA000 = .error (.boundsError 0xA000) := rfl

/-- VM11: RAM-banking mode, bank 2. -/
theorem test_ram_bank : (match busStore (withCart R 2 0x8000 0 2 true true) 0xA123 0x5A with
    | .ok t => some t.cart.cram
    | .error _ => none) = some [(0x4123, 0x5A)] := by decide

/-- VM16 and VM17: construction refused. -/
theorem test_construct_refused : construct Config.params 0x14F [] = none ∧
    construct Config.params 0x8000 [(0x0148, 9)] = none := by decide

/-- VJ2, VJ3, VJ5, VJ6: the joypad. -/
theorem test_joypad :
    let k : State := keydown .right (jsel R 0xEF)
    (joypadRead k.joy, k.ifr) = (0xEE, 0x10) ∧ joypadRead (keydown .a (jsel R 0xDF)).joy = 0xDE ∧
    joypadRead { keys := 0xFE, jsel := 0xCF } = 0xCF ∧ joypadRead { keys := 0xEF, jsel := 0xCF } = 0xCE := by decide

/-- VJ8 and VJ9: writes of the selector. -/
theorem test_joypad_write : (joypadWrite { keys := 0xFF, jsel := 0xFF } 0x00).jsel = 0xCF ∧
    (joypadWrite { keys := 0xFF, jsel := 0xCF } 0xFF).jsel = 0xFF := by decide

/-- VB1 to VB5: unmapped addresses, SEROUT and IF. -/
theorem test_bus : busRead R 0xFEA0 = .ok 0x00 ∧ busStore R 0xFF02 0x12 = .ok R ∧
    busStore R 0xFF01 0x41 = .ok { R with serout := [0x41] } ∧ busStore R 0xFF0F 0xFF = .ok { R with ifr := 0xFF } :=
  ⟨rfl, rfl, rfl, rfl⟩

/-! Witnesses: for every statement with hypotheses, a concrete case that meets them, at the edges of their ranges. -/

theorem reset_inv : State.reset.Inv :=
  ⟨State.reset_memoryWf, rfl, ⟨by decide, by decide⟩, fun c hc => absurd (show c ∈ ([] : Memory) from hc) (by simp),
    fun h => Bool.noConfusion h, ⟨⟨0, by decide, by decide⟩, by decide⟩⟩

theorem fetched_one {s : State} {b : Byte} (h : busRead s (s.regs.pc + BitVec.ofNat 16 0) = .ok b) : Fetched s [b] := by
  intro k hk
  obtain rfl : k = 0 := by simpa using hk
  exact h

theorem fetched_two {s : State} {b c : Byte} (h : busRead s (s.regs.pc + BitVec.ofNat 16 0) = .ok b)
    (h' : busRead s (s.regs.pc + BitVec.ofNat 16 1) = .ok c) : Fetched s [b, c] := by
  intro k hk
  have : k < 2 := hk
  obtain rfl | rfl : k = 0 ∨ k = 1 := by omega
  · exact h
  · exact h'

/-- Every address but the ROM windows and enabled external RAM can be read. -/
theorem readOk_plain {s : State} {a : Word} (h : 0x8000 ≤ a.toNat) (hr : ¬ Within 0xA000 0xBFFF a) : ReadOk s a :=
  ⟨fun h' => absurd h' (by omega), fun h' => absurd h'.2 (by omega), fun h' => absurd h' hr⟩

/-- A write outside external RAM and 0xFF46 raises no error. -/
theorem writeOk_plain {s : State} {a : Word} {v : Byte} (hr : ¬ Within 0xA000 0xBFFF a) (hd : a ≠ 0xFF46) : WriteOk s a v :=
  ⟨fun h' => absurd h' hr, fun h' => absurd h' hd⟩

theorem ok_of_toOption {x : Except Fault Byte} {v : Byte} (h : x.toOption = some v) : x = .ok v := by
  cases x with
  | ok w => exact congrArg _ (Option.some.inj h)
  | error f => cases h

/-- A store above the device registers touches its own byte only. -/
theorem not_touches {s : State} {a b : Word} {v : Byte} (h : 0xFF80 ≤ a.toNat) (hb : b ≠ a) : ¬ Touches s a v b := by
  rintro (⟨-, e⟩ | ⟨h1, -⟩ | ⟨h1, -⟩ | ⟨h1, -⟩ | ⟨e, -⟩ | ⟨e, -⟩)
  · exact hb e
  · omega
  · have := h1.2; omega
  · have := h1.2; omega
  · rw [e] at h; exact absurd h (by decide)
  · rw [e] at h; exact absurd h (by decide)

theorem answer_next (m : M Unit) (s : State) : ∃ t, answer m s = .next t := by
  unfold answer
  cases m s
  · exact ⟨_, rfl⟩
  · exact ⟨_, rfl⟩

theorem pushBC_next (s : State) : ∃ t, exec .pushBC s = .next t := by
  show ∃ t, execPushBC s = .next t
  unfold execPushBC
  exact answer_next _ _

theorem popAF_next (s : State) : ∃ t, exec .popAF s = .next t := by
  show ∃ t, execPopAF s = .next t
  unfold execPopAF
  exact answer_next _ _

/-- A state with external RAM of `size` bytes, enabled. -/
abbrev ram (size : Nat) : State := withCart R 2 size 0 0 false true

theorem witness_ConstructionLeavesTheSpecState : ∃ s, construct Config.params 0x8000 [] = some s := ⟨_, rfl⟩

theorem witness_ConstructionChecksTheRomHeader :
    (∃ s, construct Config.params 0x150 [(0x0148, 8), (0x0149, 5)] = some s ∧ s.cart.nbanks = 512 ∧ s.cart.cramSize = 0x10000) ∧
    construct Config.params 0x8000 [(0x0149, 6)] = none := ⟨⟨_, rfl, rfl, rfl⟩, rfl⟩

theorem witness_ConstructionMeetsTheInvariant : ∃ s, construct Config.params 0x8000 [(0x0149, 3)] = some s := ⟨_, rfl⟩

theorem witness_StepKeepsTheInvariant : State.reset.Inv ∧ ∃ t, step State.reset = .next t := ⟨reset_inv, _, rfl⟩

theorem witness_KeyEventsKeepTheInvariant : State.reset.Inv := reset_inv

theorem witness_StepNeverChangesTheConstants : ∃ t, step State.reset = .next t := ⟨_, rfl⟩

theorem witness_DecodeInvertsEncode : Instr.wellFormed (.ldBCnn 0xFFFF) = true ∧ Instr.ldBCnn 0xFFFF ≠ .cbPrefix ∧
    Instr.wellFormed (.stop 0x00) = true := by decide

theorem witness_EncodeInvertsDecode : decode [0xF8, 0x80, 0x00] = .instr (.ldHLSPe 0x80) [0x00] := by decide

theorem witness_OnlyStopRejectsACompleteWord : (∃ op b1 : Byte, op = 0x10 ∧ b1 ≠ 0x00) ∧
    ∃ op b1 : Byte, ¬(op = 0x10 ∧ b1 ≠ 0x00) := ⟨⟨0x10, 0xFF, by decide⟩, ⟨0x10, 0x00, by decide⟩⟩

/-- CB 37 in high RAM, at the last addresses of memory that hold an instruction of two bytes. -/
abbrev atHram : State := hramByte (hramByte (R.setPc 0xFFFD) 0x7D 0xCB) 0x7E 0x37

theorem witness_StepRunsTheDecodedInstruction : Fetches atHram ∧ Fetched atHram [0xCB, 0x37] ∧
    decode [0xCB, 0x37] = .instr .swapA [] ∧ 0xCB ∉ atHram.extra.ops ∧ (∀ b ∈ [0x37#8], b ∉ atHram.extra.subs) ∧
    ∃ t, exec .swapA (afterFetch atHram 2) = .next t ∧ t.fault = none ∧ (advanced t).ime = false := by
  exact ⟨⟨rfl, rfl⟩, fetched_two (ok_of_toOption (by decide)) (ok_of_toOption (by decide)), by decide, by decide, by decide, _, rfl, rfl, by decide⟩

theorem witness_StepEnds_interrupted : ∃ s : State, s.fault = none ∧ (advanced s).ime = true ∧ Lowest (advanced s) .serial :=
  ⟨irq R true 0x18 0x18, rfl, by decide, by unfold Pending; decide,
    by intro j hj; unfold Pending; revert hj; cases j <;> decide⟩

theorem witness_StepStopsExactlyOnAHeldFault : (∃ s : State, s.fault = some (.boundsError 0x4000)) ∧ ∃ s : State, s.fault = none :=
  ⟨⟨R.withFault _, rfl⟩, ⟨R, rfl⟩⟩

theorem witness_HaltedStepCharges4 : ∃ s : State, s.fault = none ∧ s.halted = true := ⟨R.setHalted true, rfl, rfl⟩

/-- EXTRA_DECODE_ERRORS with one opcode byte and one sub-byte. -/
abbrev extras : State := { atHram with extra := { ops := [0x40], subs := [0x37] } }

/-- The clauses of FetchFaultsKeepTheStateReached: a fetch outside the image, at the last byte of external RAM, and after
it; the extra bytes; STOP; an unused byte. -/
theorem witness_FetchFaults_bounds : Fetches ((ram 0x800).setPc 0xA800) ∧
    busRead ((ram 0x800).setPc 0xA800) 0xA800 = .error (.boundsError 0xA800) ∧
    (let s : State := { (ram 0x800).setPc 0xA7FF with cart := { (ram 0x800).cart with cram := [(0x7FF, 0x06)] } }
     Fetched s [0x06] ∧ operandBytes 0x06 = 1 ∧ busRead s (s.regs.pc + 1) = .error (.boundsError 0xA800)) ∧
    (let s : State := { (ram 0x800).setPc 0xA7FE with cart := { (ram 0x800).cart with cram := [(0x7FE, 0xC3)] } }
     Fetched s [0xC3, 0x00] ∧ operandBytes 0xC3 = 2 ∧ busRead s (s.regs.pc + 2) = .error (.boundsError 0xA800)) := by
  exact ⟨⟨rfl, rfl⟩, rfl, ⟨fetched_one (ok_of_toOption (by decide)), by decide, rfl⟩, ⟨fetched_two (ok_of_toOption (by decide)) (ok_of_toOption (by decide)), by decide, rfl⟩⟩

theorem witness_FetchFaults_decode : Fetches extras ∧ 0xCB ∉ extras.extra.ops ∧ 0x37 ∈ extras.extra.subs ∧
    Fetched extras [0xCB, 0x37] ∧ (let s := hramByte extras 0x7D 0x40; Fetched s [0x40] ∧ 0x40 ∈ s.extra.ops) ∧
    (let s := hramByte extras 0x7D 0x10; Fetched s [0x10, 0x37] ∧ 0x10 ∉ s.extra.ops) ∧ Fetched R [0x00] ∧
    Fetched (hramByte (R.setPc 0xFF80) 0 0xD3) [0xD3] := by
  exact ⟨⟨rfl, rfl⟩, by decide, by decide, fetched_two (ok_of_toOption (by decide)) (ok_of_toOption (by decide)), ⟨fetched_one (ok_of_toOption (by decide)), by decide⟩,
    ⟨fetched_two (ok_of_toOption (by decide)) (ok_of_toOption (by decide)), by decide⟩, fetched_one (ok_of_toOption (by decide)), fetched_one (ok_of_toOption (by decide))⟩

theorem witness_DispatchTakesTheLowestPending : Lowest (irq R true 0x1F 0x06) .stat ∧ (irq R true 0x1F 0x06).MemoryWf ∧
    WriteOk R (R.regs.sp - 1) 0x01 ∧ WriteOk R (R.regs.sp - 2) 0x00 ∧ (∀ i, ¬ Pending (irq R true 0xE0 0xE0) i) ∧
    (∃ f t, PushFault (dispatchBase (irq ((ram 0).setSp 0xC000) true 0x01 0x01) .vblank) 0x0100 f t) := by
  refine ⟨⟨by unfold Pending; decide, by intro j hj; unfold Pending; revert hj; cases j <;> decide⟩, ?_,
    writeOk_plain (by decide) (by decide), writeOk_plain (by decide) (by decide),
    by intro i; unfold Pending; cases i <;> decide, _, _, .inl rfl⟩
  exact ⟨State.reset_memoryWf.1, State.reset_memoryWf.2, State.reset_memoryWf.3, State.reset_memoryWf.4,
    State.reset_memoryWf.5, State.reset_memoryWf.6, State.reset_memoryWf.7, State.reset_memoryWf.8⟩

theorem witness_OnlyHaltHaltsAndOnlyDiEiRetiChangeIme : (∃ t, exec .halt (R.setIme true) = .next t ∧ t.halted ≠ R.halted) ∧
    (∃ t, exec .ei R = .next t ∧ t.ime ≠ R.ime) ∧ (∃ t, exec .di (R.setIme true) = .next t ∧ t.ime ≠ true) ∧
    ∃ t, exec .reti R = .next t ∧ t.ime ≠ R.ime :=
  ⟨⟨_, rfl, by decide⟩, ⟨_, rfl, by decide⟩, ⟨_, rfl, by decide⟩, ⟨_, rfl, by decide⟩⟩

theorem witness_ReadsChangeOnlyWhereAStoreTouches : (∃ t, exec .nop R = .next t) ∧ storesTo .nop R = [] ∧
    (∃ t, exec .pushBC R = .next t) ∧ (∀ a ∈ storesTo .pushBC R, ∀ v, ¬ Touches R a v 0xFFFE) := by
  refine ⟨⟨_, rfl⟩, rfl, pushBC_next R, fun a ha v => ?_⟩
  have ha' : a ∈ [0xFFFD#16, 0xFFFC#16] := ha
  rcases List.mem_pair.1 ha' with rfl | rfl <;> exact not_touches (by decide) (by decide)

theorem witness_CycleCounts : Instr.jrNZe 0x05 ≠ .cbPrefix ∧ (∃ t, exec (.jrNZe 0x05) R = .next t ∧ t.fault = none) ∧
    taken (.jrNZe 0x05) R = false ∧ R.fault = none := ⟨by decide, ⟨_, rfl, rfl⟩, by decide, rfl⟩

theorem witness_UnmappedAddressesReadZeroAndDropWrites : Within 0xE000 0xFDFF 0xE000 ∧ Within 0xE000 0xFDFF 0xFDFF ∧
    Within 0xFEA0 0xFEFF 0xFEA0 ∧ Within 0xFF01 0xFF03 0xFF01 ∧ Within 0xFF02 0xFF03 0xFF03 ∧ Within 0xFF08 0xFF0E 0xFF0E ∧
    Within 0xFF10 0xFF3F 0xFF3F ∧ Within 0xFF4C 0xFF7F 0xFF7F := by decide

theorem witness_ReadsFaultExactlyOutsideTheCartridge : ReadOk R 0xFFFF ∧ ReadOk R 0x7FFF ∧ ReadOk (ram 0x800) 0xA7FF ∧
    ¬ ReadOk (ram 0x800) 0xA800 ∧ ¬ ReadOk (withCart R 4 0 2 0 false false) 0x4000 :=
  ⟨readOk_plain (by decide) (by decide), by unfold ReadOk; decide, by unfold ReadOk; decide, by unfold ReadOk; decide,
    by unfold ReadOk; decide⟩

theorem dmaSource_ok {s : State} {page : Byte} (h : 0xC0 ≤ page.toNat) (h' : page.toNat ≤ 0xDF) :
    ∀ i, i < 160 → ReadOk s (dmaSource page i) := by
  intro i hi
  have : (dmaSource page i).toNat = 256 * page.toNat + i := by
    unfold dmaSource
    rw [BitVec.toNat_ofNat]
    omega
  exact readOk_plain (by omega) (fun hw => by have := hw.2; omega)

theorem witness_MemWriteDoesWhatTheBusSays : R.MemoryWf ∧ WriteOk R 0xFF46 0xC0 ∧ WriteOk R 0xFF46 0xDF ∧ WriteOk R 0x9FFF 0x00 ∧
    WriteOk (ram 0x800) 0xA7FF 0x01 ∧ (ram 0x800).cart.cramSize ≤ cramIndex (ram 0x800).cart 0xA800 ∧
    ((0x7F : Byte).toNat < 0x80 ∧ 0xDF < (0xE0 : Byte).toNat) ∧
    (ReadOk (ram 0x701) (dmaSource 0xA7 0) ∧ ¬ ReadOk (ram 0x701) (dmaSource 0xA7 1)) :=
  ⟨State.reset_memoryWf, ⟨by decide, fun _ => ⟨by decide, by decide, dmaSource_ok (by decide) (by decide)⟩⟩,
    ⟨by decide, fun _ => ⟨by decide, by decide, dmaSource_ok (by decide) (by decide)⟩⟩,
    writeOk_plain (by decide) (by decide), ⟨by decide, fun h => absurd h (by decide)⟩, by decide, by decide,
    by unfold ReadOk; decide, by unfold ReadOk; decide⟩

theorem witness_StoredBytesReadBack : R.MemoryWf ∧ (∃ t, busStore R 0xDFFF 0x55 = .ok t) ∧ (∃ t, busStore R 0xFF80 0x55 = .ok t) ∧
    (∃ t, busStore R 0x9FFF 0x55 = .ok t) ∧ R.ppu.mode ≠ .transfer ∧ (∃ t, busStore (displayOff R) 0xFE9F 0x55 = .ok t) ∧
    (displayOff R).ppu.mode = .hblank ∧ ∃ t, busStore (ram 0x2000) 0xBFFF 0x55 = .ok t :=
  ⟨State.reset_memoryWf, ⟨_, rfl⟩, ⟨_, rfl⟩, ⟨_, rfl⟩, by decide, ⟨_, rfl⟩, rfl, ⟨_, rfl⟩⟩

theorem witness_VramAndOamAreGatedByTheMode : Within 0x8000 0x9FFF 0x8000 ∧ Within 0xFE00 0xFE9F 0xFE9F ∧
    ∃ s : State, s.Inv ∧ s.ppu.lcdc.getLsbD 7 = false := by
  refine ⟨by decide, by decide, displayOff R, ?_, by decide⟩
  exact ⟨⟨reset_inv.1.1, reset_inv.1.2, reset_inv.1.3, reset_inv.1.4, reset_inv.1.5, reset_inv.1.6, reset_inv.1.7,
    reset_inv.1.8⟩, rfl, ⟨by decide, by decide⟩, reset_inv.4, reset_inv.5, reset_inv.6⟩

theorem witness_SwitchableBankFollowsTheLatches : R.cart.SizesLegal ∧ R.cart.lo = 0 ∧ R.cart.hi = 0 ∧
    (withCart R 2 0 2 0 false false).cart.SizesLegal ∧ ReadOk R 0x3FFF ∧ ReadOk R 0x7FFF :=
  ⟨reset_inv.6, rfl, rfl, reset_inv.6, by unfold ReadOk; decide, by unfold ReadOk; decide⟩

theorem witness_RomWritesSetTheLatches : (0x1FFF : Word).toNat ≤ 0x7FFF ∧ (0x2000 : Word).toNat ≤ 0x7FFF ∧
    (0x5FFF : Word).toNat ≤ 0x7FFF ∧ (0x7FFF : Word).toNat ≤ 0x7FFF ∧
    (∃ t, busStore R 0x7FFF 0x01 = .ok t) ∧ (∃ t, memWrite 0x0000 0x0A R = .ok () t) ∧
    ∃ f t, memWrite 0xFF46 0x7F R = .error f t :=
  ⟨by decide, by decide, by decide, by decide, ⟨_, rfl⟩, ⟨_, rfl⟩, ⟨_, _, rfl⟩⟩

theorem witness_ExternalRamObeysEnableAndBank : Within 0xA000 0xBFFF 0xBFFF ∧ R.cart.ramen = false ∧
    (ram 0x2000).cart.ramen = true ∧ (0xBFFF : Word).toNat - 0xA000 < (ram 0x2000).cart.cramSize ∧
    (ram 0x800).cart.cramSize ≤ (0xA800 : Word).toNat - 0xA000 := by decide

theorem witness_JoypadRegisterSelectsAKeyNibble : (jsel R 0xEF).joy.jsel.getLsbD 4 = false ∧
    (jsel R 0xDF).joy.jsel.getLsbD 4 = true ∧ (jsel R 0xDF).joy.jsel.getLsbD 5 = false ∧
    (jsel R 0xFF).joy.jsel.getLsbD 5 = true := by decide

theorem witness_TimerCountsEveryMultiple : (tim R 0b001 0 0).timer.tac.getLsbD 2 = false ∧
    (tim R 0b101 0xFE 0).timer.tac.getLsbD 2 = true ∧ 0xFE + 16 / 16 ≤ 255 ∧ 255 < 0xFF + 16 / 16 := by decide

theorem witness_PpuPositionFollowsTheFrame : FrameStart R := ⟨by decide, rfl, rfl, rfl⟩

theorem witness_ModeTransitionsRequestTheirInterrupts : R.ppu.mode = .oamScan ∧ (inMode R .transfer).ppu.mode = .transfer ∧
    (line (inMode R .hblank) 142).ppu.ly + 1 ≠ 144 ∧ (line (inMode R .hblank) 143).ppu.ly + 1 = 144 ∧
    (line (inMode R .vblank) 152).ppu.ly ≠ 153 ∧ (line (inMode R .vblank) 153).ppu.ly = 153 := by decide

theorem witness_DisplayToggleRestartsTheFrame : (0x93#8).getLsbD 7 = R.ppu.lcdc.getLsbD 7 ∧
    ((0x91#8).getLsbD 7 = true ∧ (displayOff R).ppu.lcdc.getLsbD 7 = false) ∧
    ((0x11#8).getLsbD 7 = false ∧ R.ppu.lcdc.getLsbD 7 = true) := by decide

theorem witness_RendererDrawsBackgroundAndWindow : ∃ p q : Ppu, p.ly.toNat = 143 ∧ Sparse.wf p.fbInit (160 * 144) p.fb ∧
    Sparse.wf false (160 * 144) p.bgpri ∧ p.lcdc.getLsbD 0 = true ∧ q.ly.toNat < 144 ∧
    Sparse.wf q.fbInit (160 * 144) q.fb ∧ Sparse.wf false (160 * 144) q.bgpri ∧ q.lcdc.getLsbD 0 = false := by
  refine ⟨{ tiles 0xB1 0xE4 8 0 87 with ly := 143 }, tiles 0x90 0xE4 0 0 0, by decide, ?_, ?_, by decide, by decide, ?_, ?_,
    by decide⟩ <;> exact ⟨List.Pairwise.nil, fun c hc => absurd (show c ∈ [] from hc) (by simp)⟩

theorem witness_SpritesNeverReachTheScreen :
    ∀ k, k < 8 → k ≠ 1 → k ≠ 2 → (0x97#8).getLsbD k = (0x91#8).getLsbD k := by decide

/-- The hypotheses of Loads: a read that succeeds and one that faults. -/
theorem witness_MemoryLoads : (∃ v, busRead (R.setHl 0xFFFF) (R.setHl 0xFFFF).hl = .ok v) ∧
    ∃ f, busRead ((ram 0).setHl 0xA000) ((ram 0).setHl 0xA000).hl = .error f := ⟨⟨_, rfl⟩, ⟨_, rfl⟩⟩

/-- The hypotheses of Stores: a store that succeeds and two that fault. -/
theorem witness_MemoryStores : R.MemoryWf ∧ WriteOk (R.setHl 0xFFFF) (R.setHl 0xFFFF).hl 0x01 ∧
    (∃ f t, memWrite 0xA000 0x01 (ram 0) = .error f t) ∧ ∃ f t, memWrite 0xFF46 0x7F R = .error f t :=
  ⟨State.reset_memoryWf, writeOk_plain (by decide) (by decide), ⟨_, _, rfl⟩, ⟨_, _, rfl⟩⟩

theorem witness_StackPointerStore : WriteOk R 0xFFFF 0xFE ∧ WriteOk R (0xFFFF + 1) 0xFF ∧
    (∃ f t, memWrite 0xBFFF 0xFE (ram 0) = .error f t) ∧
    ∃ u f t, memWrite 0x9FFF 0xFE (ram 0) = .ok () u ∧ memWrite (0x9FFF + 1) 0xFF u = .error f t :=
  ⟨writeOk_plain (by decide) (by decide), writeOk_plain (by decide) (by decide), ⟨_, _, rfl⟩, ⟨_, _, _, rfl, rfl⟩⟩

/-- The hypotheses of Pushes and Pops, the faulting ones at each of the two bytes. -/
theorem witness_PushAndPop : (WriteOk R (R.regs.sp - 1) 0xFF ∧ WriteOk R (R.regs.sp - 2) 0xFF) ∧
    (∃ f t, PushFault (((ram 0).setSp 0xC000).charge 4) 0x1234 f t) ∧
    (∃ f t, PushFault (((ram 0).setSp 0xC001).charge 4) 0x1234 f t) ∧
    ((∃ v, busRead R R.regs.sp = .ok v) ∧ ∃ v, busRead R (R.regs.sp + 1) = .ok v) ∧
    (∃ f, busRead ((ram 0).setSp 0xBFFF) 0xBFFF = .error f) ∧
    ((∃ v, busRead ((ram 0).setSp 0x9FFF) 0x9FFF = .ok v) ∧ ∃ f, busRead ((ram 0).setSp 0x9FFF) (0x9FFF + 1) = .error f) :=
  ⟨⟨writeOk_plain (by decide) (by decide), writeOk_plain (by decide) (by decide)⟩, ⟨_, _, .inl rfl⟩,
    ⟨_, _, .inr ⟨_, rfl, rfl⟩⟩, ⟨⟨_, rfl⟩, ⟨_, rfl⟩⟩, ⟨_, rfl⟩, ⟨⟨_, rfl⟩, ⟨_, rfl⟩⟩⟩

theorem witness_PushThenPopRestores : R.Inv ∧ R.fault = none ∧
    (∀ a ∈ [R.regs.sp - 1, R.regs.sp - 2], Within 0xC000 0xDFFF a ∨ Within 0xFF80 0xFFFE a) ∧
    ∃ t u, exec (Row.push .bc) R = .next t ∧ exec (Row.pop .af) t = .next u := by
  obtain ⟨t, ht⟩ := pushBC_next R
  obtain ⟨u, hu⟩ := popAF_next t
  refine ⟨reset_inv, rfl, fun a ha => ?_, t, u, ht, hu⟩
  have ha' : a ∈ [0xFFFD#16, 0xFFFC#16] := ha
  rcases List.mem_pair.1 ha' with rfl | rfl <;> exact .inr (by decide)

theorem witness_AluOnMemory : (∃ v, busRead (R.setHl 0xC000) 0xC000 = .ok v) ∧ ∃ f, busRead (ram 0) 0xBFFF = .error f :=
  ⟨⟨_, rfl⟩, ⟨_, rfl⟩⟩

theorem witness_IncrementAndDecrement : (∃ v, busRead (R.setHl 0xFF80) (R.setHl 0xFF80).hl = .ok v) ∧
    WriteOk (R.setHl 0xFF80) (R.setHl 0xFF80).hl 0x01 ∧ (∃ f, busRead ((ram 0).setHl 0xA000) 0xA000 = .error f) ∧
    ∃ f t, memWrite 0xFF46 0x01 (R.charge 4) = .error f t :=
  ⟨⟨_, rfl⟩, writeOk_plain (by decide) (by decide), ⟨_, rfl⟩, ⟨_, _, rfl⟩⟩

theorem witness_DecimalArithmeticIsExact : (∃ s t u : State, s.regs.a = bcd 99 ∧ exec (.addAn (bcd 99)) s = .next t ∧
      exec .daa t = .next u) ∧
    ∃ s t u : State, s.regs.a = bcd 0 ∧ exec (.subn (bcd 99)) s = .next t ∧ exec .daa t = .next u :=
  ⟨⟨R.setReg .a (bcd 99), _, _, rfl, rfl, rfl⟩, ⟨R.setReg .a (bcd 0), _, _, rfl, rfl, rfl⟩⟩

theorem witness_CallsAndRestarts : condHolds .z R.regs.f = true ∧ condHolds .nz R.regs.f = false ∧ condHolds .c R.regs.f = true ∧
    condHolds .nc R.regs.f = false := by decide

theorem witness_Returns : condHolds .c R.regs.f = true ∧ condHolds .nc R.regs.f = false ∧
    (∃ v, busRead R R.regs.sp = .ok v) ∧ ∃ f, busRead ((ram 0).setSp 0xA000) 0xA000 = .error f :=
  ⟨by decide, by decide, ⟨_, rfl⟩, ⟨_, rfl⟩⟩

theorem witness_CbOnMemory : (∃ v, busRead (R.setHl 0xC000) (R.setHl 0xC000).hl = .ok v) ∧
    WriteOk (R.setHl 0xC000) (R.setHl 0xC000).hl 0x80 ∧ (∃ f, busRead ((ram 0).setHl 0xBFFF) 0xBFFF = .error f) ∧
    ∃ f t, memWrite 0xFF46 0x02 (R.charge 4) = .error f t :=
  ⟨⟨_, rfl⟩, writeOk_plain (by decide) (by decide), ⟨_, rfl⟩, ⟨_, _, rfl⟩⟩

theorem witness_CbPrefixRunsTheRowItSelects : (∃ f, busRead ((ram 0).setPc 0xA000) 0xA000 = .error f) ∧
    (busRead (atHram.setPc 0xFFFE) 0xFFFE = .ok 0x37 ∧ 0x37 ∉ atHram.extra.subs) ∧
    (busRead (extras.setPc 0xFFFE) 0xFFFE = .ok 0x37 ∧ 0x37 ∈ extras.extra.subs) :=
  ⟨⟨_, rfl⟩, ⟨ok_of_toOption (by decide), by decide⟩, ⟨ok_of_toOption (by decide), by decide⟩⟩

theorem witness_SystemInstructionsAndUnusedBytes : (0x01 : Byte) ≠ 0x00 ∧ (Instr.unusedFD, 0xFD#8) ∈ [(Instr.unusedFD, 0xFD#8)] := by
  decide

theorem witness_SafeRunsKeepTheInvariant : State.reset.Inv ∧ SafeRun 1 State.reset ∧ ∃ t, Host.Core.run Sys2Proof.core 1 State.reset = .next t :=
  ⟨reset_inv, ⟨_, rfl, rfl⟩, _, rfl⟩

end Sys2Proof.Tests
end

section
/-! PROOFS. What the instructions do to IME and halted (10_state.md R35, R36; 44_system.md R311, R313, R314). -/

namespace Sys2Proof.Machine

variable {R : State → State → Prop} {s t : State}

/-- RETI keeps what register writes and setting IME keep. -/
theorem Closed.returnFromInterrupt (h : Closed R) (enable : ∀ s, R s (s.setIme true)) :
    Keeps R Machine.returnFromInterrupt :=
  h.bind h.pop16 fun a => h.bind h.tick fun _ => Closed.update fun s => h.trans (h.setPc s a) (enable _)

/-- halted is as it was, and IME is as it was or was set to 1: what RETI may do, and every instruction that writes neither. -/
def ImeOnlyRaised (s t : State) : Prop := t.halted = s.halted ∧ (t.ime = s.ime ∨ t.ime = true)

/-- halted and IME are as they were. -/
def SameImeHalted (s t : State) : Prop := t.halted = s.halted ∧ t.ime = s.ime

theorem sameImeHalted_closed : ClosedStores SameImeHalted where
  refl _ := ⟨rfl, rfl⟩
  trans := fun ⟨h, i⟩ ⟨h', i'⟩ => ⟨h'.trans h, i'.trans i⟩
  charge _ _ := ⟨rfl, rfl⟩
  setReg s r v := ⟨s.setReg_halted r v, s.setReg_ime r v⟩
  setF _ _ := ⟨rfl, rfl⟩
  setSp _ _ := ⟨rfl, rfl⟩
  setPc _ _ := ⟨rfl, rfl⟩
  store _ _ _ _ h := by
    obtain ⟨-, hime, hhalted, -, -, -⟩ := busStore_keeps h
    exact ⟨hhalted, hime⟩

theorem imeOnlyRaised_closed : Closed ImeOnlyRaised where
  refl _ := ⟨rfl, .inl rfl⟩
  trans := fun ⟨h, i⟩ ⟨h', i'⟩ => ⟨h'.trans h, i'.elim (fun e => i.imp e.trans e.trans) .inr⟩
  charge _ _ := ⟨rfl, .inl rfl⟩
  setReg s r v := ⟨s.setReg_halted r v, .inl (s.setReg_ime r v)⟩
  setF _ _ := ⟨rfl, .inl rfl⟩
  setSp _ _ := ⟨rfl, .inl rfl⟩
  setPc _ _ := ⟨rfl, .inl rfl⟩

/-- The four instructions that `exec_keeps` does not speak of. -/
theorem halt_di_ei_reti {i : Instr} (h : ¬(i ≠ .halt ∧ i ≠ .di ∧ i ≠ .ei ∧ i ≠ .reti)) :
    i = .halt ∨ i = .di ∨ i = .ei ∨ i = .reti := by
  by_contra hne
  exact h (by simpa only [not_or] using hne)

theorem exec_halt_next (h : exec .halt s = .next t) : t = if s.ime then s.setHalted true else s :=
  (Host.Outcome.next.inj h).symm

theorem exec_di_next (h : exec .di s = .next t) : t = s.setIme false := (Host.Outcome.next.inj h).symm

theorem exec_ei_next (h : exec .ei s = .next t) : t = s.setIme true := (Host.Outcome.next.inj h).symm

/-- RETI leaves halted alone and can only set IME, whether its pop faults or not (R280). -/
theorem exec_reti_next (h : exec .reti s = .next t) : ImeOnlyRaised s t :=
  (imeOnlyRaised_closed.returnFromInterrupt fun _ => ⟨rfl, .inr rfl⟩).answer imeOnlyRaised_closed
    (fun _ _ => ⟨rfl, .inl rfl⟩) h

/-- Settles O16, one case for each of the four instructions that write halted or IME; `exec_keeps` answers for the other
508. -/
theorem onlyHaltHaltsAndOnlyDiEiRetiChangeIme : Obligations.OnlyHaltHaltsAndOnlyDiEiRetiChangeIme := by
  intro i s t h
  by_cases hi : i ≠ .halt ∧ i ≠ .di ∧ i ≠ .ei ∧ i ≠ .reti
  · obtain ⟨hhalted, hime⟩ := exec_keeps sameImeHalted_closed (fun _ _ => ⟨rfl, rfl⟩) hi h
    exact ⟨fun hne => absurd hhalted hne, fun hne => absurd hime hne⟩
  rcases halt_di_ei_reti hi with rfl | rfl | rfl | rfl
  · cases hime : s.ime <;> rw [exec_halt_next h, hime]
    · exact ⟨fun hne => absurd rfl hne, fun hne => absurd hime hne⟩
    · exact ⟨fun _ => ⟨rfl, rfl, rfl⟩, fun hne => absurd hime hne⟩
  · rw [exec_di_next h]
    exact ⟨fun hne => absurd rfl hne, fun _ => .inl ⟨rfl, rfl⟩⟩
  · rw [exec_ei_next h]
    exact ⟨fun hne => absurd rfl hne, fun _ => .inr ⟨.inl rfl, rfl⟩⟩
  · obtain ⟨hhalted, hime⟩ := exec_reti_next h
    exact ⟨fun hne => absurd hhalted hne, fun hne => .inr ⟨.inr rfl, hime.resolve_left hne⟩⟩

end Sys2Proof.Machine
end

section
/-! PROOFS. A relation kept by the building blocks of a step is kept by the step (60_exceptions.md R402). -/

namespace Sys2Proof.Machine

/-- A relation that register writes, bus writes and the building blocks of a step keep: holding a fault, the few writes of
IME, halted and IF that exist, each where it is made, the cycle count's restart, and the device advance. -/
structure StepClosed (R : State → State → Prop) : Prop extends ClosedStores R where
  fault : ∀ s f, R s (s.withFault f)
  enable : ∀ s, R s (s.setIme true)
  disable : ∀ s, s.halted = false → R s (s.setIme false)
  halt : ∀ s, s.ime = true → R s (s.setHalted true)
  wake : ∀ s, R s (s.setHalted false)
  writeIf : ∀ s v, R s { s with ifr := v }
  restart : ∀ s, R s { s with cyc := 0 }
  advance : ∀ s, R s (advanceDevices s)

namespace StepClosed

variable {R : State → State → Prop} {s t : State}

/-- `exec` runs only in a machine that is not halted, so DI leaves no machine halted with IME = 0. -/
theorem exec (h : StepClosed R) {i : Instr} (hs : s.halted = false) (e : Machine.exec i s = .next t) : R s t := by
  by_cases hi : i ≠ .halt ∧ i ≠ .di ∧ i ≠ .ei ∧ i ≠ .reti
  · exact exec_keeps h.toClosedStores h.fault hi e
  rcases halt_di_ei_reti hi with rfl | rfl | rfl | rfl
  · rw [exec_halt_next e]
    split
    · exact h.halt s ‹_›
    · exact h.refl s
  · rw [exec_di_next e]; exact h.disable s hs
  · rw [exec_ei_next e]; exact h.enable s
  · exact (h.returnFromInterrupt h.enable).answer h.toClosed h.fault e

/-- Dispatch(i) clears halted and IME together, then pushes PC (R410). -/
theorem dispatch (h : StepClosed R) (i : Interrupt) : Keeps R (Machine.dispatch i) := by
  refine h.bind (Closed.update fun s => ?_) fun _ => h.bind h.tick fun _ => h.bind h.tick fun _ =>
    h.bind (h.view _) fun _ => h.bind (h.push16 _) fun _ => Closed.update fun s => h.setPc s _
  exact h.trans (h.trans (h.writeIf s (s.ifr &&& ~~~i.mask)) (h.wake _)) (h.disable _ rfl)

theorem dispatchCheck (h : StepClosed R) (e : Machine.dispatchCheck s = .next t) : R s t := by
  unfold Machine.dispatchCheck at e
  split at e
  · split at e
    · exact (h.dispatch _).answer h.toClosed h.fault e
    · cases e; exact h.refl s
  · cases e; exact h.refl s

theorem afterExec (h : StepClosed R) (e : Machine.afterExec s = .next t) : R s t := by
  unfold Machine.afterExec at e
  split at e
  · cases e; exact h.refl s
  · exact h.trans (h.advance s) (h.dispatchCheck e)

/-- Fetching leaves the machine unhalted, so the fetched instruction runs in such a machine. -/
theorem fetchExecute (h : StepClosed R) (hs : s.halted = false) (e : Machine.fetchExecute Machine.exec s = .next t) :
    R s t := by
  have kept := ClosedStores.fetchInstr h.toClosed s
  have halted := ClosedStores.fetchInstr sameImeHalted_closed.toClosed s
  unfold Machine.fetchExecute at e
  split at e <;> rename_i hf <;> rw [hf] at kept halted
  · exact h.trans kept (h.exec (halted.1.trans hs) e)
  · cases e; exact h.trans kept (h.fault _ _)

theorem liveStep (h : StepClosed R) (e : Machine.liveStep Machine.exec s = .next t) : R s t := by
  refine h.trans (h.restart s) ?_
  unfold Machine.liveStep at e
  split at e
  · exact h.trans (h.charge _ 4) (h.afterExec e)
  · next hs =>
    cases he : Machine.fetchExecute Machine.exec { s with cyc := 0 } with
    | next u =>
      rw [he] at e
      exact h.trans (h.fetchExecute (Bool.eq_false_iff.2 hs) he) (h.afterExec e)
    | fault f => rw [he] at e; cases e
    | refused r => rw [he] at e; cases e

/-- Every step keeps what its building blocks keep. -/
theorem step (h : StepClosed R) (e : Machine.step s = .next t) : R s t := by
  unfold Machine.step at e
  split at e
  · cases e
  · exact h.liveStep e

end StepClosed

end Sys2Proof.Machine
end

section
/-! PROOFS. What a bus write and the devices leave alone, and the constants of the machine (10_state.md R50, R54, R58;
30_encoding.md R136). -/

namespace Sys2Proof.Machine

variable {s t : State}

/-! The PPU under a bus write. -/

theorem vramWrite_eq (p : Ppu) (a : Word) (v : Byte) : vramWrite p a v = { p with vram := (vramWrite p a v).vram } := by
  unfold vramWrite
  split <;> rfl

theorem oamWrite_eq (p : Ppu) (a : Word) (v : Byte) : oamWrite p a v = { p with oam := (oamWrite p a v).oam } := by
  unfold oamWrite
  split <;> rfl

/-- The timer changes itself and IF only (R420 to R422). -/
theorem timerUpdate_eq (n : Nat) (s : State) : ∃ timer ifr, timerUpdate n s = { s with timer := timer, ifr := ifr } := by
  unfold timerUpdate applyIncrements requestIrq
  dsimp only
  split
  · split <;> exact ⟨_, _, rfl⟩
  · exact ⟨_, s.ifr, rfl⟩

/-- The devices change the timer, IF and what the mode machine owns (R405). -/
theorem advanceDevices_eq (s : State) : ∃ timer ifr mode pcnt ly coinc fb bgpri, advanceDevices s =
    { s with timer := timer, ifr := ifr
             ppu := { s.ppu with mode := mode, pcnt := pcnt, ly := ly, coinc := coinc, fb := fb, bgpri := bgpri } } := by
  obtain ⟨timer, ifr, ht⟩ := timerUpdate_eq s.cyc s
  obtain ⟨mode, pcnt, ly, coinc, fb, bgpri, m, -, hp⟩ := ppuUpdate_advance s.cyc (timerUpdate s.cyc s)
  refine ⟨timer, ifr ||| m, mode, pcnt, ly, coinc, fb, bgpri, ?_⟩
  rw [advanceDevices, hp, ht]

/-- A cartridge write leaves the image and the derived sizes alone (R88 to R92). -/
theorem cartWrite_constants {c d : Cart} {a : Word} {v : Byte} (h : cartWrite c a v = .ok d) :
    d.rom = c.rom ∧ d.nbanks = c.nbanks ∧ d.cramSize = c.cramSize := by
  unfold cartWrite at h
  split_ifs at h <;> cases h <;> exact ⟨rfl, rfl, rfl⟩

/-- A write of a PPU register leaves the screen alone: the renderer runs at the entry of mode 3 only (R432, R438). -/
theorem ppuRegWrite_screen (a : Word) (v : Byte) (s : State) :
    (ppuRegWrite a v s).ppu.fb = s.ppu.fb ∧ (ppuRegWrite a v s).ppu.fbInit = s.ppu.fbInit := by
  by_cases h40 : a = 0xFF40
  · subst h40
    show (lcdcWrite v s).ppu.fb = _ ∧ (lcdcWrite v s).ppu.fbInit = _
    rw [lcdcWrite_eq]
    split <;> exact ⟨rfl, rfl⟩
  · obtain ⟨p, hp, hq⟩ := ppuRegWrite_plain (s := s) (v := v) h40
    rw [hp, hq]
    exact ⟨rfl, rfl⟩

/-! The constants. -/

/-- What no step changes: the image and the sizes derived from it, the construction parameters and the key latch; SEROUT is
only extended. -/
structure SameConstants (s t : State) : Prop where
  rom : t.cart.rom = s.cart.rom
  nbanks : t.cart.nbanks = s.cart.nbanks
  cramSize : t.cart.cramSize = s.cart.cramSize
  extra : t.extra = s.extra
  fbInit : t.ppu.fbInit = s.ppu.fbInit
  keys : t.joy.keys = s.joy.keys
  serout : s.serout <+: t.serout

/-- An update of anything else keeps them. -/
theorem SameConstants.of_eq (cart : t.cart = s.cart := by rfl) (extra : t.extra = s.extra := by rfl)
    (fbInit : t.ppu.fbInit = s.ppu.fbInit := by rfl) (keys : t.joy.keys = s.joy.keys := by rfl)
    (serout : t.serout = s.serout := by rfl) : SameConstants s t :=
  ⟨by rw [cart], by rw [cart], by rw [cart], extra, fbInit, keys, [], by rw [serout, List.append_nil]⟩

theorem SameConstants.trans {u : State} (h : SameConstants s t) (h' : SameConstants t u) : SameConstants s u :=
  ⟨h'.rom.trans h.rom, h'.nbanks.trans h.nbanks, h'.cramSize.trans h.cramSize, h'.extra.trans h.extra,
    h'.fbInit.trans h.fbInit, h'.keys.trans h.keys, h.serout.trans h'.serout⟩

theorem busStore_sameConstants {a : Word} {v : Byte} (h : busStore s a v = .ok t) : SameConstants s t := by
  revert h
  refine busStore_cases (P := fun x => x = .ok t → _) ?cart ?vram ?wram ?oam ?joyp ?sb ?timer ?ifr ?ppu ?hram ?ie ?unmapped
  case cart =>
    intro _ h
    obtain ⟨c, hc, rfl⟩ := busCartWrite_ok h
    obtain ⟨hrom, hnbanks, hsize⟩ := cartWrite_constants hc
    exact ⟨hrom, hnbanks, hsize, rfl, rfl, rfl, [], List.append_nil _⟩
  case vram => rintro - ⟨⟩; exact .of_eq (fbInit := by rw [vramWrite_eq])
  case oam => rintro - ⟨⟩; exact .of_eq (fbInit := by rw [oamWrite_eq])
  case sb => rintro - ⟨⟩; exact ⟨rfl, rfl, rfl, rfl, rfl, rfl, [v], rfl⟩
  case ppu =>
    rintro - ⟨⟩
    obtain ⟨f, p, hp⟩ := ppuRegWrite_eq a v s
    have hfb := (ppuRegWrite_screen a v s).2
    rw [hp] at hfb ⊢
    exact .of_eq (fbInit := hfb)
  case unmapped => rintro ⟨⟩; exact .of_eq
  case wram | joyp | timer | ifr | hram | ie => rintro - ⟨⟩; exact .of_eq

theorem advanceDevices_sameConstants (s : State) : SameConstants s (advanceDevices s) := by
  obtain ⟨_, _, _, _, _, _, _, _, h⟩ := advanceDevices_eq s
  rw [h]
  exact .of_eq

theorem sameConstants_closed : StepClosed SameConstants where
  refl _ := .of_eq
  trans := .trans
  charge _ _ := .of_eq
  setReg s r v := .of_eq (by simp) (by simp) (by simp) (by simp) (by simp)
  setF _ _ := .of_eq
  setSp _ _ := .of_eq
  setPc _ _ := .of_eq
  store _ _ _ _ := busStore_sameConstants
  fault _ _ := .of_eq
  enable _ := .of_eq
  disable _ _ := .of_eq
  halt _ _ := .of_eq
  wake _ := .of_eq
  writeIf _ _ := .of_eq
  restart _ := .of_eq
  advance := advanceDevices_sameConstants

/-- Settles O6: the step keeps the constants because its building blocks do. -/
theorem stepNeverChangesTheConstants : Obligations.StepNeverChangesTheConstants := by
  intro s t h
  obtain ⟨hrom, hnbanks, hsize, hextra, hfbInit, hkeys, out, hout⟩ := sameConstants_closed.step h
  exact ⟨hrom, hnbanks, hsize, hextra, hfbInit, hkeys, out, hout.symm⟩

end Sys2Proof.Machine
end

section
/-! PROOFS. The invariant of the machine (Sys2Proof/Safety.lean) is kept by every step. -/

namespace Sys2Proof.Machine

variable {s t : State}

/-! The mode machine keeps the position of the frame legal (60_exceptions.md R430, R431, R437). -/

/-- The line exists, and the mode is 1 exactly on the lines from 144 on (R431). -/
def Ppu.LineLegal (p : Ppu) : Prop := p.ly.toNat ≤ 153 ∧ (p.mode = .vblank ↔ 144 ≤ p.ly.toNat)

/-- The transition of R431 leads from a legal position to a legal one. -/
theorem nextPosition_legal {m : PpuMode} {ly : Byte} (h : ly.toNat ≤ 153) (hm : m = .vblank ↔ 144 ≤ ly.toNat) :
    (nextPosition m ly).2.toNat ≤ 153 ∧ ((nextPosition m ly).1 = .vblank ↔ 144 ≤ (nextPosition m ly).2.toNat) := by
  have hsucc : (ly + 1).toNat = ly.toNat + 1 := by bv_omega
  cases m
  case hblank =>
    have hlow : ly.toNat < 144 := by simpa using hm
    by_cases he : ly + 1 = 144
    · simp only [nextPosition, he]; decide
    · have hne : (ly + 1).toNat ≠ 144 := fun h => he (BitVec.eq_of_toNat_eq h)
      simp only [nextPosition, if_neg he, reduceCtorEq, false_iff]
      omega
  case vblank =>
    have hhigh : 144 ≤ ly.toNat := by simpa using hm
    by_cases he : ly + 1 = 154
    · simp only [nextPosition, he]; decide
    · have hne : (ly + 1).toNat ≠ 154 := fun h => he (BitVec.eq_of_toNat_eq h)
      simp only [nextPosition, if_neg he, true_iff]
      omega
  case oamScan => exact ⟨h, by simpa [nextPosition] using hm⟩
  case transfer => exact ⟨h, by simpa [nextPosition] using hm⟩

theorem modeEnds_lineLegal (h : s.ppu.LineLegal) : (modeEnds s).ppu.LineLegal := by
  obtain ⟨hly, hmode⟩ := h
  obtain ⟨hpos, -, -⟩ := modeEnds_position s
  have hnext := nextPosition_legal hly hmode
  rw [← hpos] at hnext
  exact hnext

theorem ppuUpdate_timingLegal (n : Nat) (h : s.ppu.TimingLegal) : (ppuUpdate n s).ppu.TimingLegal := by
  cases hon : s.ppu.displayOn
  · rw [ppuUpdate_off hon]; exact h
  obtain ⟨-, hly, hmode⟩ := h.2 hon
  have hline : (ppuUpdate n s).ppu.LineLegal :=
    ppuUpdate_induct (P := fun t => t.ppu.LineLegal) (fun _ => modeEnds_lineLegal) (fun _ _ h => h) n s ⟨hly, hmode⟩
  have hpcnt : (ppuUpdate n s).ppu.pcnt.toNat < (ppuUpdate n s).ppu.mode.length := by
    rw [ppuUpdate_on hon]; exact ppuRun_pcnt _ s
  have hon' : (ppuUpdate n s).ppu.displayOn = true := by
    obtain ⟨_, _, _, _, _, _, _, -, hp⟩ := ppuUpdate_advance n s
    rw [hp]; exact hon
  exact ⟨fun hoff => absurd (hon'.symm.trans hoff) (by decide), fun _ => ⟨hpcnt, hline⟩⟩

/-! The renderer draws the four shades (R442, R445). -/

theorem shade_mem (bgp : Byte) (c : BitVec 2) : shade bgp c ∈ [0xFF#8, 0xAA#8, 0x55#8, 0x00#8] := by
  unfold shade
  split <;> simp

theorem lineShades_mem {p : Ppu} {y : Nat} {v : Byte} (h : v ∈ lineShades p y) :
    v ∈ [0xFF#8, 0xAA#8, 0x55#8, 0x00#8] := by
  unfold lineShades at h
  split at h
  · obtain ⟨c, -, rfl⟩ := List.mem_map.1 h
    exact shade_mem p.bgp c
  · rw [List.eq_of_mem_replicate h]; simp

theorem Ppu.ShadesLegal.render {p : Ppu} (h : p.ShadesLegal) : (renderScanline p).ShadesLegal := by
  unfold renderScanline
  split
  · intro c hc
    exact (Sparse.mem_putRange hc).elim lineShades_mem (h c)
  · exact h

theorem enterMode_shadesLegal (h : s.ppu.ShadesLegal) (m : PpuMode) : (enterMode m s).ppu.ShadesLegal := by
  have hmode : Ppu.ShadesLegal { s.ppu with mode := m } := h
  rw [enterMode_eq]
  exact ite_cases (fun _ => hmode.render) fun _ => hmode

theorem compareLY_fb (s : State) : (compareLY s).ppu.fb = s.ppu.fb := by
  unfold compareLY requestIrq
  dsimp only
  split <;> rfl

theorem modeEnds_shadesLegal (h : s.ppu.ShadesLegal) : (modeEnds s).ppu.ShadesLegal := by
  have hline : ∀ v, (compareLY (setLY v s)).ppu.ShadesLegal := fun v c hc => h c (compareLY_fb (setLY v s) ▸ hc)
  unfold modeEnds
  split
  · exact enterMode_shadesLegal h _
  · exact enterMode_shadesLegal h _
  · unfold hblankEnds
    dsimp only
    split <;> exact enterMode_shadesLegal (hline _) _
  · unfold vblankLineEnds
    split
    · exact enterMode_shadesLegal (hline _) _
    · exact hline _

theorem ppuUpdate_shadesLegal (n : Nat) (h : s.ppu.ShadesLegal) : (ppuUpdate n s).ppu.ShadesLegal :=
  ppuUpdate_induct (P := fun t => t.ppu.ShadesLegal) (fun _ => modeEnds_shadesLegal) (fun _ _ h => h) n s h

/-! Each part of the invariant over the building blocks of a step. -/

/-- The invariant reads the memories, F, IME, halted, the PPU and the cartridge: an update that leaves the memories, the PPU
and the cartridge alone keeps it if it keeps F and the pair of IME and halted legal. -/
theorem State.Inv.congr (h : s.Inv) (flags : s.FlagsLegal → t.FlagsLegal := by exact id)
    (halt : s.HaltLegal → t.HaltLegal := by exact id) (ppu : t.ppu = s.ppu := by rfl) (cart : t.cart = s.cart := by rfl)
    (wram : t.wram = s.wram := by rfl) (hram : t.hram = s.hram := by rfl) : t.Inv where
  memory := ⟨wram ▸ h.memory.wram, hram ▸ h.memory.hram, ppu ▸ h.memory.vram, ppu ▸ h.memory.oam, cart ▸ h.memory.cram,
    cart ▸ h.memory.rom, ppu ▸ h.memory.fb, ppu ▸ h.memory.bgpri⟩
  flags := flags h.flags
  timing := ppu ▸ h.timing
  shades := ppu ▸ h.shades
  halt := halt h.halt
  cart := cart ▸ h.cart

theorem setReg_flagsLegal (r : R8) (v : Byte) (h : s.FlagsLegal) : (s.setReg r v).FlagsLegal := by
  unfold State.FlagsLegal
  rwa [State.setReg_regs_f]

theorem setReg_haltLegal (r : R8) (v : Byte) (h : s.HaltLegal) : (s.setReg r v).HaltLegal := by
  unfold State.HaltLegal
  rwa [State.setReg_halted, State.setReg_ime]

theorem setF_flagsLegal (s : State) (v : Byte) : (s.setF v).FlagsLegal := by
  show v &&& 0xF0 &&& 0x0F = 0
  rw [BitVec.and_assoc]
  exact BitVec.and_zero

/-- A write of LCDC that toggles the display starts the frame anew, in mode 2 or 0; any other leaves the position alone
(R438). -/
theorem lcdcWrite_timingLegal (v : Byte) (h : s.ppu.TimingLegal) : (lcdcWrite v s).ppu.TimingLegal := by
  have onStart : (0 : Word).toNat < PpuMode.oamScan.length ∧ (0 : Byte).toNat ≤ 153 ∧
      (PpuMode.oamScan = .vblank ↔ 144 ≤ (0 : Byte).toNat) := by decide
  rw [lcdcWrite_eq]
  split
  · next hsame =>
    have hon : ({ s.ppu with lcdc := v } : Ppu).displayOn = s.ppu.displayOn := hsame
    exact ⟨fun hoff => h.1 (hon.symm.trans hoff), fun hon' => h.2 (hon.symm.trans hon')⟩
  · cases hv : v.getLsbD 7
    · exact ⟨fun _ => ⟨rfl, rfl, rfl⟩, fun hon => absurd (hv.symm.trans hon) (by decide)⟩
    · exact ⟨fun hoff => absurd (hv.symm.trans hoff) (by decide), fun _ => onStart⟩

theorem ppuRegWrite_timingLegal (a : Word) (v : Byte) (h : s.ppu.TimingLegal) :
    (ppuRegWrite a v s).ppu.TimingLegal := by
  by_cases h40 : a = 0xFF40
  · subst h40
    exact lcdcWrite_timingLegal v h
  · obtain ⟨p, hp, hq⟩ := ppuRegWrite_plain (s := s) (v := v) h40
    rw [hp, hq]
    exact h

/-- A bus write keeps the position legal and leaves the screen alone (R74, R438, R439). -/
theorem busStore_ppu {a : Word} {v : Byte} (h : busStore s a v = .ok t) :
    (s.ppu.TimingLegal → t.ppu.TimingLegal) ∧ t.ppu.fb = s.ppu.fb := by
  revert h
  refine busStore_cases (P := fun x => x = .ok t → _) ?cart ?vram ?wram ?oam ?joyp ?sb ?timer ?ifr ?ppu ?hram ?ie ?unmapped
  case cart =>
    intro _ h
    obtain ⟨c, -, rfl⟩ := busCartWrite_ok h
    exact ⟨id, rfl⟩
  case vram => rintro - ⟨⟩; rw [vramWrite_eq]; exact ⟨id, rfl⟩
  case oam => rintro - ⟨⟩; rw [oamWrite_eq]; exact ⟨id, rfl⟩
  case ppu => rintro - ⟨⟩; exact ⟨ppuRegWrite_timingLegal a v, (ppuRegWrite_screen a v s).1⟩
  case unmapped => rintro ⟨⟩; exact ⟨id, rfl⟩
  case wram | joyp | sb | timer | ifr | hram | ie => rintro - ⟨⟩; exact ⟨id, rfl⟩

theorem busStore_inv {a : Word} {v : Byte} (h : busStore s a v = .ok t) (hs : s.Inv) : t.Inv := by
  obtain ⟨hregs, hime, hhalted, -, -, -⟩ := busStore_keeps h
  obtain ⟨htiming, hfb⟩ := busStore_ppu h
  have hconst := busStore_sameConstants h
  refine ⟨busStore_wf h hs.memory, ?_, htiming hs.timing, fun c hc => hs.shades c (hfb ▸ hc), ?_, ?_⟩
  · unfold State.FlagsLegal; rw [hregs]; exact hs.flags
  · unfold State.HaltLegal; rw [hhalted, hime]; exact hs.halt
  · unfold Cart.SizesLegal; rw [hconst.nbanks, hconst.cramSize]; exact hs.cart

theorem timerUpdate_inv (n : Nat) (hs : s.Inv) : (timerUpdate n s).Inv := by
  obtain ⟨_, _, ht⟩ := timerUpdate_eq n s
  rw [ht]
  exact hs.congr

theorem ppuUpdate_inv (n : Nat) (hs : s.Inv) : (ppuUpdate n s).Inv := by
  obtain ⟨mode, pcnt, ly, coinc, fb, bgpri, m, -, hp⟩ := ppuUpdate_advance n s
  refine ⟨ppuUpdate_wf n hs.memory, ?_, ppuUpdate_timingLegal n hs.timing, ppuUpdate_shadesLegal n hs.shades, ?_, ?_⟩ <;>
    rw [hp]
  · exact hs.flags
  · exact hs.halt
  · exact hs.cart

/-- `t` meets the invariant if `s` does. -/
def InvKept (s t : State) : Prop := s.Inv → t.Inv

theorem invKept_closed : StepClosed InvKept where
  refl _ := id
  trans h h' := h' ∘ h
  charge _ _ h := h.congr
  setReg _ r v h := h.congr (setReg_flagsLegal r v) (setReg_haltLegal r v) (by simp) (by simp) (by simp) (by simp)
  setF s v h := h.congr fun _ => setF_flagsLegal s v
  setSp _ _ h := h.congr
  setPc _ _ h := h.congr
  store _ _ _ _ := busStore_inv
  fault _ _ h := h.congr
  enable _ h := h.congr (halt := fun _ _ => rfl)
  disable _ hs h := h.congr (halt := fun _ hh => absurd (hs.symm.trans hh) Bool.false_ne_true)
  halt _ hs h := h.congr (halt := fun _ _ => hs)
  wake _ h := h.congr (halt := fun _ hh => absurd hh Bool.false_ne_true)
  writeIf _ _ h := h.congr
  restart _ h := h.congr
  advance s h := ppuUpdate_inv s.cyc (timerUpdate_inv s.cyc h)

/-- Settles O4: the step keeps the invariant because its building blocks do. -/
theorem stepKeepsTheInvariant : Obligations.StepKeepsTheInvariant :=
  fun _ _ hs h => invKept_closed.step h hs

end Sys2Proof.Machine
end

section
/-! PROOFS. The register file (10_state.md R30 to R33; 30_encoding.md R122, R123). -/

namespace Sys2Proof.Machine

variable (s : State)

/-! Pairs as numbers (R31). -/

theorem word16_toNat (hi lo : Byte) : (word16 hi lo).toNat = 256 * hi.toNat + lo.toNat := by
  rw [word16, BitVec.toNat_append, ← Nat.shiftLeft_add_eq_or_of_lt lo.isLt, Nat.shiftLeft_eq, Nat.mul_comm]

theorem hiByte_toNat (v : Word) : (hiByte v).toNat = v.toNat / 256 := by
  have hv := word16_toNat (hiByte v) (loByte v)
  rw [word16_hiByte_loByte] at hv
  have := (loByte v).isLt
  omega

theorem loByte_toNat (v : Word) : (loByte v).toNat = v.toNat % 256 := by
  have hv := word16_toNat (hiByte v) (loByte v)
  rw [word16_hiByte_loByte] at hv
  have := (loByte v).isLt
  omega

/-! F (R32). -/

theorem and_highNibble_toNat (v : Byte) : (v &&& 0xF0).toNat = v.toNat / 16 * 16 := by
  revert v; decide

theorem Flags.toByte_toNat (g : Flags) :
    g.toByte.toNat = 128 * g.z.toNat + 64 * g.n.toNat + 32 * g.h.toNat + 16 * g.c.toNat := by
  obtain ⟨z, n, h, c⟩ := g
  revert z n h c; decide

/-! What a write changes and what it leaves. -/

theorem State.reg_setReg (r q : R8) (v : Byte) : (s.setReg r v).reg q = if q = r then v else s.reg q := by
  split
  · next h => rw [h, State.setReg_reg_self]
  · next h => exact s.setReg_reg_other h v

theorem State.setReg_eq (r : R8) (v : Byte) : s.setReg r v = { s with regs := (s.setReg r v).regs } := by
  cases r <;> rfl

theorem State.setRp_rp_other {p q : Rp} (h : q ≠ p) (v : Word) : (s.setRp p v).rp q = s.rp q := by
  cases p <;> cases q
  case bc.bc | de.de | hl.hl | sp.sp => exact absurd rfl h
  all_goals rfl

theorem State.rp_setRp (p q : Rp) (v : Word) : (s.setRp p v).rp q = if q = p then v else s.rp q := by
  split
  · next h => rw [h, State.setRp_rp]
  · next h => exact s.setRp_rp_other h v

theorem State.setRp_eq (p : Rp) (v : Word) : s.setRp p v = { s with regs := (s.setRp p v).regs } := by
  cases p <;> rfl

theorem State.setAf_regs_f_toNat (v : Word) : (s.setAf v).regs.f.toNat = v.toNat % 256 / 16 * 16 := by
  rw [State.setAf_regs_f, and_highNibble_toNat, loByte_toNat]

theorem State.setFlags_regs_f_toNat (g : Flags) :
    (s.setFlags g).regs.f.toNat = 128 * g.z.toNat + 64 * g.n.toNat + 32 * g.h.toNat + 16 * g.c.toNat := by
  rw [State.setFlags_regs_f, Flags.toByte_and, Flags.toByte_toNat]

/-- Settles O39, clause by clause: registers, pairs, AF, the pairs of PUSH and POP, flags. -/
theorem registerFileReadsAndWrites : Obligations.RegisterFileReadsAndWrites := by
  intro s
  refine ⟨s.reg_setReg, fun r v => ⟨s.setReg_eq r v, by simp⟩, ?pairs, s.rp_setRp,
    fun p v => ⟨s.setRp_eq p v, by simp⟩, fun v => ⟨rfl, ?af⟩, fun p v => ?rp2,
    fun g => ⟨rfl, s.setFlags_flags g, s.setFlags_regs_f_toNat g⟩⟩
  case pairs => exact ⟨word16_toNat _ _, word16_toNat _ _, word16_toNat _ _, word16_toNat _ _⟩
  case af => exact ⟨by rw [State.setAf_regs_a, hiByte_toNat], s.setAf_regs_f_toNat v⟩
  case rp2 => cases p <;> rfl

end Sys2Proof.Machine
end

section
/-! PROOFS. The PPU's registers on the bus (10_state.md R45 to R47, R53; 60_exceptions.md R439). -/

namespace Sys2Proof.Machine

variable {s : State} {a : Word} {v : Byte}

/-- No other handler of the read dispatch answers an address of the PPU's register file (R73). -/
theorem busRead_ppuReg (h : isPpuReg a = true) : busRead s a = .ok (ppuRegRead s.ppu a) := by
  obtain ⟨hlo, hhi, -⟩ := isPpuReg_range h
  have hjoyp : a ≠ 0xFF00 := by bv_omega
  have hif : a ≠ 0xFF0F := by bv_omega
  unfold busRead
  rw [if_neg (by omega), if_neg (by omega), if_neg (by omega), if_neg (by omega), if_neg (by omega), if_neg hjoyp,
    if_neg (by omega), if_neg hif, if_pos h]

/-- The same for the write dispatch (R74). -/
theorem busStore_ppuReg (h : isPpuReg a = true) : busStore s a v = .ok (ppuRegWrite a v s) := by
  obtain ⟨hlo, hhi, -⟩ := isPpuReg_range h
  have hjoyp : a ≠ 0xFF00 := by bv_omega
  have hsb : a ≠ 0xFF01 := by bv_omega
  have hif : a ≠ 0xFF0F := by bv_omega
  unfold busStore
  rw [if_neg (by omega), if_neg (by omega), if_neg (by omega), if_neg (by omega), if_neg (by omega), if_neg hjoyp,
    if_neg hsb, if_neg (by omega), if_neg hif, if_pos h]

/-- STAT as a number: the enables in bits 6 to 3, coinc in bit 2, the mode in bits 1 and 0 (R46). -/
theorem statRead_toNat (p : Ppu) :
    (statRead p).toNat = 8 * p.staten.toNat + 4 * p.coinc.toNat + p.mode.bits.toNat := by
  have hbits : ∀ (e : BitVec 4) (c : Bool) (m : BitVec 2),
      (0#1 ++ e ++ BitVec.ofBool c ++ m : Byte).toNat = 8 * e.toNat + 4 * c.toNat + m.toNat := by decide
  exact hbits p.staten p.coinc p.mode.bits

theorem statEnables_toNat (v : Byte) : (v.extractLsb' 3 4).toNat = v.toNat / 8 % 16 := by
  rw [BitVec.extractLsb'_toNat, Nat.shiftRight_eq_div_pow]

/-- Settles O36: each address is one row of the register file behind `busRead_ppuReg` and `busStore_ppuReg`. -/
theorem ppuRegistersOnTheBus : Obligations.PpuRegistersOnTheBus := by
  intro s v
  refine ⟨busRead_ppuReg rfl, ⟨statRead s.ppu, busRead_ppuReg rfl, ?stat⟩,
    ⟨v.extractLsb' 3 4, busStore_ppuReg rfl, statEnables_toNat v⟩, busRead_ppuReg rfl, busStore_ppuReg rfl,
    busRead_ppuReg rfl, busStore_ppuReg rfl, busRead_ppuReg rfl, busStore_ppuReg rfl,
    busRead_ppuReg rfl, busStore_ppuReg rfl, busRead_ppuReg rfl, busStore_ppuReg rfl,
    busRead_ppuReg rfl, busStore_ppuReg rfl, busRead_ppuReg rfl, busStore_ppuReg rfl,
    busRead_ppuReg rfl, busStore_ppuReg rfl, busRead_ppuReg rfl, busStore_ppuReg rfl⟩
  case stat =>
    rw [statRead_toNat]
    cases s.ppu.mode <;> rfl

end Sys2Proof.Machine
end

section
/-! PROOFS. The bus region by region (20_memory.md R73 to R79, R83 to R93): what a read and a write of each region of R73 and
R74 is. -/

namespace Sys2Proof.Machine

open Sys2Proof.Spec

variable {s t : State} {a : Word} {v : Byte}

/-! The cartridge (R85 to R93). -/

theorem busRead_cart (h : a.toNat ≤ 0x7FFF ∨ Within 0xA000 0xBFFF a) : busRead s a = cartRead s.cart a := by
  unfold busRead
  rcases h with h | h
  · rw [if_pos h]
  · rw [if_neg (by omega), if_neg (by omega), if_pos h.2]

theorem busStore_cart (h : a.toNat ≤ 0x7FFF ∨ Within 0xA000 0xBFFF a) : busStore s a v = busCartWrite s a v := by
  unfold busStore
  rcases h with h | h
  · rw [if_pos h]
  · rw [if_neg (by omega), if_neg (by omega), if_pos h.2]

theorem busCartWrite_of_ok {c : Cart} (h : cartWrite s.cart a v = .ok c) : busCartWrite s a v = .ok { s with cart := c } := by
  rw [busCartWrite, h]

theorem busCartWrite_of_error {f : Fault} (h : cartWrite s.cart a v = .error f) : busCartWrite s a v = .error f := by
  rw [busCartWrite, h]

theorem busRead_romFixed (h : a.toNat ≤ 0x3FFF) : busRead s a = romByte s.cart a a.toNat := by
  rw [busRead_cart (.inl (by omega)), cartRead, if_pos h]

theorem busRead_romBank (h : Within 0x4000 0x7FFF a) :
    busRead s a = romByte s.cart a (effBank s.cart * 0x4000 + (a.toNat - 0x4000)) := by
  rw [busRead_cart (.inl h.2), cartRead, if_neg (by omega), if_pos h.2]

/-- External RAM is read under the enable, inside its size (R87). -/
theorem busRead_extRam (h : Within 0xA000 0xBFFF a) : busRead s a =
    if s.cart.ramen = false then .ok 0xFF
    else if cramIndex s.cart a < s.cart.cramSize then .ok (s.cart.cram.read (cramIndex s.cart a))
    else .error (.boundsError a) := by
  rw [busRead_cart (.inr h), cartRead, if_neg (by omega), if_neg (by omega)]

theorem cartWrite_extRam {c : Cart} (h : Within 0xA000 0xBFFF a) : cartWrite c a v =
    if c.ramen = false then .ok c
    else if cramIndex c a < c.cramSize then .ok { c with cram := c.cram.write (cramIndex c a) v }
    else .error (.boundsError a) := by
  rw [cartWrite, if_neg (by omega), if_neg (by omega), if_neg (by omega), if_neg (by omega)]

theorem busStore_extRam_disabled (h : Within 0xA000 0xBFFF a) (hen : s.cart.ramen = false) : busStore s a v = .ok s := by
  rw [busStore_cart (.inr h)]
  exact busCartWrite_of_ok (by rw [cartWrite_extRam h, if_pos hen])

theorem busStore_extRam_inside (h : Within 0xA000 0xBFFF a) (hen : s.cart.ramen = true)
    (hi : cramIndex s.cart a < s.cart.cramSize) : busStore s a v =
      .ok { s with cart := { s.cart with cram := s.cart.cram.write (cramIndex s.cart a) v } } := by
  rw [busStore_cart (.inr h)]
  exact busCartWrite_of_ok (by rw [cartWrite_extRam h, if_neg (by simp [hen]), if_pos hi])

theorem busStore_extRam_outside (h : Within 0xA000 0xBFFF a) (hen : s.cart.ramen = true)
    (hi : s.cart.cramSize ≤ cramIndex s.cart a) : busStore s a v = .error (.boundsError a) := by
  rw [busStore_cart (.inr h)]
  exact busCartWrite_of_error (by rw [cartWrite_extRam h, if_neg (by simp [hen]), if_neg (by omega)])

/-- The index counts from 0xA000, in bank HI in RAM-banking mode and in bank 0 otherwise (R93). -/
theorem cramIndex_eq {c : Cart} (h : Within 0xA000 0xBFFF a) :
    cramIndex c a = a.toNat - 0xA000 + 0x2000 * (if c.bmode then c.hi.toNat else 0) := by
  rw [cramIndex, and_low13]
  omega

/-! The memories of the machine (R76, R77, R83, R84). -/

theorem busRead_vram (h : Within 0x8000 0x9FFF a) : busRead s a = .ok (vramRead s.ppu a) := by
  rw [busRead, if_neg (by omega), if_pos h.2]

theorem busStore_vram (h : Within 0x8000 0x9FFF a) : busStore s a v = .ok { s with ppu := vramWrite s.ppu a v } := by
  rw [busStore, if_neg (by omega), if_pos h.2]

theorem wramIndex_eq (h : Within 0xC000 0xDFFF a) : (a &&& 0x1FFF).toNat = a.toNat - 0xC000 := by
  rw [and_low13]
  omega

theorem busRead_wram (h : Within 0xC000 0xDFFF a) : busRead s a = .ok (s.wram.read (a.toNat - 0xC000)) := by
  rw [busRead, if_neg (by omega), if_neg (by omega), if_neg (by omega), if_pos h.2, wramIndex_eq h]

theorem busStore_wram (h : Within 0xC000 0xDFFF a) :
    busStore s a v = .ok { s with wram := s.wram.write (a.toNat - 0xC000) v } := by
  rw [busStore, if_neg (by omega), if_neg (by omega), if_neg (by omega), if_pos h.2, wramIndex_eq h]

theorem busRead_oam (h : Within 0xFE00 0xFE9F a) : busRead s a = .ok (oamRead s.ppu a) := by
  rw [busRead, if_neg (by omega), if_neg (by omega), if_neg (by omega), if_neg (by omega), if_pos h]

theorem busStore_oamRegion (h : Within 0xFE00 0xFE9F a) : busStore s a v = .ok { s with ppu := oamWrite s.ppu a v } := by
  rw [busStore, if_neg (by omega), if_neg (by omega), if_neg (by omega), if_neg (by omega), if_pos h]

/-- The high RAM lies above every register of the I/O page. -/
theorem hram_not_io (h : Within 0xFF80 0xFFFE a) : a ≠ 0xFF00 ∧ a ≠ 0xFF01 ∧ a ≠ 0xFF0F ∧ ¬ isPpuReg a = true := by
  refine ⟨by bv_omega, by bv_omega, by bv_omega, fun hp => ?_⟩
  have := (isPpuReg_range hp).2.1
  omega

theorem busRead_hram (h : Within 0xFF80 0xFFFE a) : busRead s a = .ok (s.hram.read (a.toNat - 0xFF80)) := by
  obtain ⟨hjoyp, -, hif, hppu⟩ := hram_not_io h
  rw [busRead, if_neg (by omega), if_neg (by omega), if_neg (by omega), if_neg (by omega), if_neg (by omega), if_neg hjoyp,
    if_neg (by omega), if_neg hif, if_neg hppu, if_pos h]

theorem busStore_hram (h : Within 0xFF80 0xFFFE a) :
    busStore s a v = .ok { s with hram := s.hram.write (a.toNat - 0xFF80) v } := by
  obtain ⟨hjoyp, hsb, hif, hppu⟩ := hram_not_io h
  rw [busStore, if_neg (by omega), if_neg (by omega), if_neg (by omega), if_neg (by omega), if_neg (by omega), if_neg hjoyp,
    if_neg hsb, if_neg (by omega), if_neg hif, if_neg hppu, if_pos h]

/-! The unmapped addresses (R75). -/

/-- The addresses unmapped for reads and writes. 0xFF01 and 0xFF46 are unmapped for reads only. -/
def Unmapped (a : Word) : Prop :=
  Within 0xE000 0xFDFF a ∨ Within 0xFEA0 0xFEFF a ∨ Within 0xFF02 0xFF03 a ∨ Within 0xFF08 0xFF0E a ∨
    Within 0xFF10 0xFF3F a ∨ Within 0xFF4C 0xFF7F a

theorem not_isPpuReg (h : a.toNat < 0xFF40 ∨ a = 0xFF46 ∨ 0xFF4B < a.toNat) : ¬ isPpuReg a = true := fun hp => by
  obtain ⟨hlo, hhi, hdma⟩ := isPpuReg_range hp
  bv_omega

theorem busRead_unmapped (h : Unmapped a ∨ a = 0xFF01 ∨ a = 0xFF46) : busRead s a = .ok 0x00 := by
  unfold Unmapped Within at h
  have hjoyp : a ≠ 0xFF00 := by bv_omega
  have hif : a ≠ 0xFF0F := by bv_omega
  have hie : a ≠ 0xFFFF := by bv_omega
  have hppu : ¬ isPpuReg a = true := not_isPpuReg (by bv_omega)
  rw [busRead, if_neg (by bv_omega), if_neg (by bv_omega), if_neg (by bv_omega), if_neg (by bv_omega), if_neg (by bv_omega),
    if_neg hjoyp, if_neg (by bv_omega), if_neg hif, if_neg hppu, if_neg (by bv_omega), if_neg hie]

theorem busStore_unmapped (h : Unmapped a) : busStore s a v = .ok s := by
  unfold Unmapped Within at h
  have hjoyp : a ≠ 0xFF00 := by bv_omega
  have hsb : a ≠ 0xFF01 := by bv_omega
  have hif : a ≠ 0xFF0F := by bv_omega
  have hie : a ≠ 0xFFFF := by bv_omega
  have hppu : ¬ isPpuReg a = true := not_isPpuReg (by bv_omega)
  rw [busStore, if_neg (by omega), if_neg (by omega), if_neg (by omega), if_neg (by omega), if_neg (by omega),
    if_neg hjoyp, if_neg hsb, if_neg (by omega), if_neg hif, if_neg hppu, if_neg (by omega), if_neg hie]

/-- Settles O19: both dispatches fall through every handler at an unmapped address. -/
theorem unmappedAddressesReadZeroAndDropWrites : Obligations.UnmappedAddressesReadZeroAndDropWrites := by
  intro s a v
  refine ⟨fun h => busRead_unmapped ?_, fun h => ?_⟩
  · unfold Unmapped Within
    bv_omega
  · have hdma : a ≠ 0xFF46 := by
      rintro rfl
      revert h; decide
    rw [memWrite_store hdma]
    exact memStore_ok (busStore_unmapped h)

/-- Settles O27: the dispatch at three fixed addresses. -/
theorem interruptAndOutputRegisters : Obligations.InterruptAndOutputRegisters :=
  fun _ _ => ⟨rfl, rfl, rfl, rfl, busRead_unmapped (.inr (.inl rfl)), rfl⟩

/-! The gating of VRAM and OAM (R83, R84). -/

theorem Ppu.oamOpen_iff (p : Ppu) : p.oamOpen = true ↔ p.mode = .hblank ∨ p.mode = .vblank := by
  simp [Ppu.oamOpen]

/-- Settles O23; with the display off the mode is 0 by the invariant's timing. -/
theorem vramAndOamAreGatedByTheMode : Obligations.VramAndOamAreGatedByTheMode := by
  intro s a v
  refine ⟨fun h => ⟨busRead_vram h, ?_⟩, fun h => ⟨?_, ?_⟩, fun hinv hoff => (hinv.timing.1 hoff).1⟩
  · rw [busStore_vram h, vramWrite]
    split <;> rfl
  · simp only [busRead_oam h, oamRead, Ppu.oamOpen_iff]
  · simp only [busStore_oamRegion h, oamWrite, Ppu.oamOpen_iff]
    split <;> rfl

/-- Settles O26: the three cases of the enable and the index (R87, R92). -/
theorem externalRamObeysEnableAndBank : Obligations.ExternalRamObeysEnableAndBank := by
  intro s a v h
  rw [← cramIndex_eq h]
  refine ⟨fun hen => ⟨?_, busStore_extRam_disabled h hen⟩, fun hen hi => ⟨?_, busStore_extRam_inside h hen hi⟩,
    fun hen hi => ⟨?_, busStore_extRam_outside h hen hi⟩⟩
  · rw [busRead_extRam h, if_pos hen]
  · rw [busRead_extRam h, if_neg (by simp [hen]), if_pos hi]
  · rw [busRead_extRam h, if_neg (by simp [hen]), if_neg (by omega)]

/-! Reading back what was written (R76, R77, R83, R84, R92). -/

theorem busRead_busStore_vram (hw : s.MemoryWf) (h : Within 0x8000 0x9FFF a) (hm : s.ppu.mode ≠ .transfer)
    (e : busStore s a v = .ok t) : busRead t a = .ok v := by
  rw [busStore_vram h, vramWrite, if_neg hm] at e
  cases e
  rw [busRead_vram h, vramRead, if_neg hm, Memory.read_write_self hw.vram]

theorem busRead_busStore_oam (hw : s.MemoryWf) (h : Within 0xFE00 0xFE9F a) (ho : s.ppu.oamOpen = true)
    (e : busStore s a v = .ok t) : busRead t a = .ok v := by
  rw [busStore_oamRegion h, oamWrite, if_pos ho] at e
  cases e
  rw [busRead_oam h, oamRead]
  exact congrArg _ ((if_pos ho).trans (Memory.read_write_self hw.oam _ v))

/-- Enabled external RAM that takes the write holds the index (R95). -/
theorem busRead_busStore_extRam (hw : s.MemoryWf) (h : Within 0xA000 0xBFFF a) (hen : s.cart.ramen = true)
    (e : busStore s a v = .ok t) : busRead t a = .ok v := by
  by_cases hi : cramIndex s.cart a < s.cart.cramSize
  · rw [busStore_extRam_inside h hen hi] at e
    cases e
    rw [busRead_extRam h, if_neg (by simp [hen])]
    exact (if_pos hi).trans (congrArg _ (Memory.read_write_self hw.cram _ v))
  · rw [busStore_extRam_outside h hen (by omega)] at e
    cases e

/-- Settles O22: what each memory that takes the write gives back, and for work RAM and high RAM the whole next state. -/
theorem storedBytesReadBack : Obligations.StoredBytesReadBack := by
  intro s t a v hw e
  have wram : Within 0xC000 0xDFFF a → t = { s with wram := s.wram.write (a.toNat - 0xC000) v } := fun h => by
    rw [busStore_wram h] at e
    exact (Except.ok.inj e).symm
  have hram : Within 0xFF80 0xFFFE a → t = { s with hram := s.hram.write (a.toNat - 0xFF80) v } := fun h => by
    rw [busStore_hram h] at e
    exact (Except.ok.inj e).symm
  have readWram := fun i => Memory.read_write_self hw.wram i v
  have readHram := fun i => Memory.read_write_self hw.hram i v
  refine ⟨busStore_wf e hw, ?_, fun h => ?_, fun h => ?_⟩
  · rintro (h | h | ⟨h, hm⟩ | ⟨h, hm⟩ | ⟨h, hen⟩)
    · rw [busRead_wram h, wram h, readWram]
    · rw [busRead_hram h, hram h, readHram]
    · exact busRead_busStore_vram hw h hm e
    · exact busRead_busStore_oam hw h ((Ppu.oamOpen_iff _).2 hm) e
    · exact busRead_busStore_extRam hw h hen e
  · rw [wram h]
    exact ⟨rfl, readWram _, fun n hn => Memory.read_write_other _ hn v⟩
  · rw [hram h]
    exact ⟨rfl, readHram _, fun n hn => Memory.read_write_other _ hn v⟩

end Sys2Proof.Machine
end

section
/-! PROOFS. The cartridge: when a read faults, which bank it reads, and what its latches are (20_memory.md R85 to R97). -/

namespace Sys2Proof.Machine

open Sys2Proof.Spec

variable {s : State} {a : Word} {v : Byte}

/-! When a read faults (R85, R86, R87, R95). Each window of the cartridge has one bound, and no other address has one. -/

theorem readOk_romFixed (h : a.toNat ≤ 0x3FFF) : ReadOk s a ↔ a.toNat < s.cart.rom.size :=
  ⟨fun ⟨hfixed, _, _⟩ => hfixed h, fun hi => ⟨fun _ => hi, fun hw => absurd hw.1 (by omega), fun hw => absurd hw.1 (by omega)⟩⟩

theorem readOk_romBank (h : Within 0x4000 0x7FFF a) :
    ReadOk s a ↔ effBank s.cart * 0x4000 + (a.toNat - 0x4000) < s.cart.rom.size :=
  ⟨fun ⟨_, hbank, _⟩ => hbank h, fun hi => ⟨fun hw => absurd h.1 (by omega), fun _ => hi, fun hw => absurd hw.1 (by omega)⟩⟩

theorem readOk_extRam (h : Within 0xA000 0xBFFF a) :
    ReadOk s a ↔ (s.cart.ramen = true → cramIndex s.cart a < s.cart.cramSize) :=
  ⟨fun ⟨_, _, hext⟩ => hext h, fun hi => ⟨fun hw => absurd h.1 (by omega), fun hw => absurd hw.2 (by omega), fun _ => hi⟩⟩

theorem readOk_offCart (h : 0x8000 ≤ a.toNat) (h' : ¬ Within 0xA000 0xBFFF a) : ReadOk s a :=
  ⟨fun hw => absurd h (by omega), fun hw => absurd hw.2 (by omega), fun hw => absurd hw h'⟩

theorem busRead_offCart (h : 0x8000 ≤ a.toNat) (h' : ¬ Within 0xA000 0xBFFF a) : ∃ v, busRead s a = .ok v := by
  have hok : ∀ x : Byte, ∃ v, (Except.ok x : Except Fault Byte) = .ok v := fun x => ⟨x, rfl⟩
  unfold busRead
  rw [if_neg (by omega)]
  refine ite_cases (P := fun x => ∃ v, x = Except.ok v) (fun _ => hok _) fun hvram => ?_
  -- Between VRAM and work RAM stands external RAM, which `h'` excludes; every handler from work RAM on answers a byte.
  rw [if_neg (by omega)]
  iterate 8 refine ite_cases (P := fun x => ∃ v, x = Except.ok v) (fun _ => hok _) fun _ => ?_
  exact hok _

/-- What a bounded access answers. -/
theorem romByte_ok {c : Cart} {i : Nat} (h : i < c.rom.size) : romByte c a i = .ok (c.rom.byte i) := if_pos h

theorem romByte_error {c : Cart} {i : Nat} (h : ¬ i < c.rom.size) : romByte c a i = .error (.boundsError a) := if_neg h

/-- The windows of a bus address as a read sees them. -/
theorem window_cases (a : Word) : a.toNat ≤ 0x3FFF ∨ Within 0x4000 0x7FFF a ∨ Within 0xA000 0xBFFF a ∨
    (0x8000 ≤ a.toNat ∧ ¬ Within 0xA000 0xBFFF a) := by
  unfold Within
  omega

theorem busRead_ok (h : ReadOk s a) : ∃ v, busRead s a = .ok v := by
  rcases window_cases a with hw | hw | hw | ⟨hlo, hext⟩
  · exact ⟨_, (busRead_romFixed hw).trans (romByte_ok ((readOk_romFixed hw).1 h))⟩
  · exact ⟨_, (busRead_romBank hw).trans (romByte_ok ((readOk_romBank hw).1 h))⟩
  · rw [busRead_extRam hw]
    split
    · exact ⟨_, rfl⟩
    · next hen => exact ⟨_, if_pos ((readOk_extRam hw).1 h (by simpa using hen))⟩
  · exact busRead_offCart hlo hext

theorem busRead_error (h : ¬ ReadOk s a) : busRead s a = .error (.boundsError a) := by
  rcases window_cases a with hw | hw | hw | ⟨hlo, hext⟩
  · exact (busRead_romFixed hw).trans (romByte_error (mt (readOk_romFixed hw).2 h))
  · exact (busRead_romBank hw).trans (romByte_error (mt (readOk_romBank hw).2 h))
  · obtain ⟨hen, hi⟩ := Classical.not_imp.1 (mt (readOk_extRam hw).2 h)
    rw [busRead_extRam hw, if_neg (by simp [hen]), if_neg hi]
  · exact absurd (readOk_offCart hlo hext) h

/-- Settles O20: a read succeeds under ReadOk, faults otherwise, and MemRead adds the 4 cycles. -/
theorem readsFaultExactlyOutsideTheCartridge : Obligations.ReadsFaultExactlyOutsideTheCartridge := by
  intro s a
  refine ⟨fun h => ?_, fun h => ⟨busRead_error h, memRead_error (busRead_error h)⟩, readOk_offCart⟩
  obtain ⟨v, hv⟩ := busRead_ok h
  exact ⟨v, hv, memRead_ok hv⟩

/-! The effective bank (R86). -/

theorem hi_lo_toNat (hi : BitVec 2) (lo : BitVec 5) : (hi.toNat <<< 5) ||| lo.toNat = 32 * hi.toNat + lo.toNat := by
  rw [← Nat.shiftLeft_add_eq_or_of_lt lo.isLt, Nat.shiftLeft_eq]
  omega

/-- The bank that the latches select before the mask (R86): LO = 0 counts as 1, HI as 0 in RAM-banking mode. -/
def Cart.selectedBank (c : Cart) : Nat :=
  32 * (if c.bmode then 0 else c.hi.toNat) + if c.lo = 0 then 1 else c.lo.toNat

/-- The four values that R86 bumps are those with LO = 0. -/
theorem bumped_eq (hi : Nat) (lo : BitVec 5) (h : hi ≤ 3) :
    (if 32 * hi + lo.toNat = 0x00 ∨ 32 * hi + lo.toNat = 0x20 ∨ 32 * hi + lo.toNat = 0x40 ∨ 32 * hi + lo.toNat = 0x60
      then 32 * hi + lo.toNat + 1 else 32 * hi + lo.toNat) = 32 * hi + if lo = 0 then 1 else lo.toNat := by
  by_cases hlo : lo = 0
  · subst hlo
    simp only [BitVec.ofNat_eq_ofNat, BitVec.toNat_ofNat, if_true]
    rw [if_pos (by omega)]
  · have hpos : lo.toNat ≠ 0 := fun e => hlo (BitVec.eq_of_toNat_eq e)
    have := lo.isLt
    rw [if_neg hlo, if_neg (by omega)]

theorem effBank_eq_and (c : Cart) : effBank c = c.selectedBank &&& (c.nbanks - 1) := by
  have := c.hi.isLt
  unfold effBank Cart.selectedBank
  cases c.bmode
  · simp only [hi_lo_toNat, Bool.false_eq_true, if_false, bumped_eq c.hi.toNat c.lo (by omega)]
  · have h := bumped_eq 0 c.lo (by omega)
    simp only [Nat.mul_zero, Nat.zero_add] at h
    simp only [if_true, h, Nat.mul_zero, Nat.zero_add]

/-- Masking to a power of two is reducing modulo it. -/
theorem effBank_eq_mod {c : Cart} (h : c.SizesLegal) : effBank c = c.selectedBank % c.nbanks := by
  obtain ⟨code, -, hn⟩ := h.1
  have hpow : c.nbanks = 2 ^ (code + 1) := by rw [hn, Nat.shiftLeft_eq, Nat.pow_succ, Nat.mul_comm]
  rw [effBank_eq_and, hpow, Nat.and_two_pow_sub_one_eq_mod]

theorem nbanks_even_pos {c : Cart} (h : c.SizesLegal) : 2 ∣ c.nbanks ∧ 0 < c.nbanks := by
  obtain ⟨code, -, hn⟩ := h.1
  have := Nat.two_pow_pos code
  rw [hn, Nat.shiftLeft_eq]
  exact ⟨Nat.dvd_mul_right _ _, by omega⟩

/-- With LO = 0 the bank is odd: the bump makes the composed bank odd, and the mask keeps its parity. -/
theorem effBank_odd {c : Cart} (h : c.SizesLegal) (hlo : c.lo = 0) : effBank c % 2 = 1 := by
  rw [effBank_eq_mod h, Nat.mod_mod_of_dvd _ (nbanks_even_pos h).1, Cart.selectedBank, if_pos hlo]
  omega

/-- A bank that the mask leaves alone is not one of the bumped four. -/
theorem effBank_of_lt {c : Cart} (h : c.SizesLegal) (hlo : c.lo ≠ 0) (hlt : c.selectedBank < c.nbanks) :
    effBank c % 32 ≠ 0 := by
  have hpos : c.lo.toNat ≠ 0 := fun e => hlo (BitVec.eq_of_toNat_eq e)
  have := c.lo.isLt
  rw [effBank_eq_mod h, Nat.mod_eq_of_lt hlt, Cart.selectedBank, if_neg hlo]
  omega

theorem effBank_not_fixed {c : Cart} (h : c.SizesLegal) (hsel : c.lo = 0 ∨ c.selectedBank < c.nbanks) :
    effBank c ∉ [0, 0x20, 0x40, 0x60] := by
  have hne : effBank c % 32 ≠ 0 := by
    by_cases hlo : c.lo = 0
    · have := effBank_odd h hlo
      omega
    · exact effBank_of_lt h hlo (hsel.resolve_left hlo)
  simp only [List.mem_cons, List.not_mem_nil, or_false, not_or]
  omega

/-- Settles O24: the mask is a remainder, and neither an odd bank nor one below NBANKS with LO ≠ 0 is a fixed bank. -/
theorem switchableBankFollowsTheLatches : Obligations.SwitchableBankFollowsTheLatches := by
  intro s a h
  obtain ⟨heven, hpos⟩ := nbanks_even_pos h
  refine ⟨effBank_eq_mod h, effBank_not_fixed h, fun hlo hhi => ?_, fun hn hlo => ?_, fun hw hok => ?_, fun hw hok => ?_⟩
  · have h1 : s.cart.selectedBank = 1 := by simp [Cart.selectedBank, hlo, hhi]
    rw [effBank_eq_mod h, h1, Nat.mod_eq_of_lt (by omega)]
  · rw [effBank_eq_mod h, hn, Cart.selectedBank, hlo]
    rw [if_neg (show ¬ (2 : BitVec 5) = 0 by decide), show (2 : BitVec 5).toNat = 2 from rfl]
    omega
  · rw [busRead_romFixed hw, romByte_ok ((readOk_romFixed hw).1 hok)]
  · rw [busRead_romBank hw, romByte_ok ((readOk_romBank hw).1 hok), Nat.mul_comm]

/-! The latches (R88 to R91). -/

theorem ramEnable_iff (v : Byte) : v &&& 0x0F = 0x0A ↔ v.toNat % 16 = 0x0A := by
  rw [← lowNibble_toNat, lowNibble, ← BitVec.toNat_inj]
  rfl

theorem setWidth_eq_ofNat_mod (v : Byte) (w : Nat) : v.setWidth w = BitVec.ofNat w (v.toNat % 2 ^ w) := by
  apply BitVec.eq_of_toNat_eq
  rw [BitVec.toNat_setWidth, BitVec.toNat_ofNat, Nat.mod_mod]

theorem cartWrite_latches (c : Cart) (h : a.toNat ≤ 0x7FFF) : cartWrite c a v = .ok
    (if a.toNat ≤ 0x1FFF then { c with ramen := decide (v.toNat % 16 = 0x0A) }
     else if a.toNat ≤ 0x3FFF then { c with lo := BitVec.ofNat 5 (v.toNat % 32) }
     else if a.toNat ≤ 0x5FFF then { c with hi := BitVec.ofNat 2 (v.toNat % 4) }
     else { c with bmode := decide (v.toNat % 2 = 1) }) := by
  have hlo := setWidth_eq_ofNat_mod v 5
  have hhi := setWidth_eq_ofNat_mod v 2
  have hmode : v.getLsbD 0 = decide (v.toNat % 2 = 1) := Nat.testBit_zero _
  unfold cartWrite
  simp only [ramEnable_iff, hlo, hhi, hmode, if_pos h]
  split_ifs <;> rfl

/-- Settles O25: the latches by their ranges, and the image among the constants that every store keeps. -/
theorem romWritesSetTheLatches : Obligations.RomWritesSetTheLatches := by
  intro s a v
  have h := sameConstants_closed.toClosedStores.memWrite a v s
  refine ⟨fun ha => ?_, fun t e => (busStore_sameConstants e).rom, fun t e => ?_, fun f t e => ?_⟩
  · rw [busStore_cart (.inl ha)]
    exact busCartWrite_of_ok (cartWrite_latches s.cart ha)
  · rw [e] at h; exact h.rom
  · rw [e] at h; exact h.rom

end Sys2Proof.Machine
end

section
/-! PROOFS. MemWrite: what it answers and what it leaves, an OAM-DMA and its faults included (20_memory.md R71, R74, R80 to R82,
R95; 60_exceptions.md R401). -/

namespace Sys2Proof.Machine

open Sys2Proof.Spec

variable {s t : State} {a b : Word} {v : Byte}

/-! One write, with its 4 cycles. -/

theorem busStore_charge_ok {n : Nat} (h : busStore s a v = .ok t) : busStore (s.charge n) a v = .ok (t.charge n) := by
  rw [busStore_charge, h]
  rfl

theorem memWrite_ok (ha : a ≠ 0xFF46) (h : busStore s a v = .ok t) : memWrite a v s = .ok () (t.charge 4) := by
  rw [memWrite_store ha]
  exact memStore_ok (busStore_charge_ok h)

theorem busStore_storeEffect (ha : a ≠ 0xFF46) (h : busStore s a v = .ok t) : StoreEffect s a v (t.charge 4) where
  byte _ := ⟨t, h, rfl⟩
  dma e := absurd e ha
  cpu := by
    obtain ⟨hregs, hime, hhalted, -, hfault, -⟩ := busStore_keeps h
    exact ⟨hregs, hime, hhalted, hfault⟩
  frame b hb := busStore_frame h b hb

/-! The OAM-DMA copy. -/

/-- The source address of R81 as the copy computes it. -/
theorem dmaSource_eq (page : Byte) (i : Nat) : dmaSource page i = word16 page 0 + BitVec.ofNat 16 i := by
  apply BitVec.eq_of_toNat_eq
  rw [dmaSource, BitVec.toNat_add, BitVec.toNat_ofNat, BitVec.toNat_ofNat, word16_toNat]
  show _ = (256 * page.toNat + 0 + i % 2 ^ 16) % 2 ^ 16
  omega

theorem busRead_withOam_outside (m : Memory) (h : ¬ Within 0xFE00 0xFE9F b) : busRead (s.withOam m) b = busRead s b :=
  busRead_congr (oam := fun hb => absurd hb h)

/-- The cycles charged so far play no part in what is copied. -/
theorem DmaOam.of_charge {n i c : Nat} {m : Memory} (h : DmaOam v n i (s.charge c) m) : DmaOam v n i s m :=
  ⟨h.closed, h.wf, h.copied, h.others⟩

theorem memWrite_dma_run (h : 0x80 ≤ v.toNat ∧ v.toNat ≤ 0xDF) : memWrite 0xFF46 v s = oamDmaFrom v 160 0 (s.charge 4) := by
  rw [memWrite_dma, oamDma_goodPage h]

theorem memWrite_dma_badPage (h : v.toNat < 0x80 ∨ 0xDF < v.toNat) :
    memWrite 0xFF46 v s = .error (.configError v) (s.charge 4) := by
  rw [memWrite_dma, oamDma_badPage h]

/-- A DMA whose page can be read: 160 bytes copied at 8 cycles each, after the trigger's 4 (R81). -/
theorem memWrite_dma_ok (hw : Memory.wf 160 s.ppu.oam) (hp : 0x80 ≤ v.toNat ∧ v.toNat ≤ 0xDF)
    (hr : ∀ i, i < 160 → ReadOk s (dmaSource v i)) :
    ∃ m, memWrite 0xFF46 v s = .ok () ((s.withOam m).charge 1284) ∧ DmaOam v 160 0 s m := by
  obtain ⟨m, hm, hd⟩ := oamDmaFrom_ok hp.2 160 0 (by omega) (s.charge 4) hw fun j _ hj => by
    rw [← dmaSource_eq]
    exact busRead_ok (hr j (by omega))
  exact ⟨m, (memWrite_dma_run hp).trans (hm.trans (congrArg _ (State.charge_charge (s.withOam m) 4 1280))), hd.of_charge⟩

/-- A DMA whose byte k cannot be read stops there, 8 cycles a byte and 4 for the last read later (R401). -/
theorem memWrite_dma_fault {k : Nat} (hk : k < 160) (hw : Memory.wf 160 s.ppu.oam) (hp : 0x80 ≤ v.toNat ∧ v.toNat ≤ 0xDF)
    (hr : ∀ i, i < k → ReadOk s (dmaSource v i)) (hf : ¬ ReadOk s (dmaSource v k)) :
    ∃ m, memWrite 0xFF46 v s = .error (.boundsError (dmaSource v k)) ((s.withOam m).charge (8 + 8 * k)) ∧
      DmaOam v k 0 s m := by
  have hread : ∀ j, 0 ≤ j → j < 0 + k → ∃ x, busRead (s.charge 4) (word16 v 0 + BitVec.ofNat 16 j) = .ok x := by
    intro j _ hj
    rw [← dmaSource_eq]
    exact busRead_ok (hr j (by omega))
  have herr : busRead (s.charge 4) (word16 v 0 + BitVec.ofNat 16 (0 + k)) = .error (.boundsError (dmaSource v k)) := by
    rw [Nat.zero_add, ← dmaSource_eq]
    exact busRead_error hf
  obtain ⟨m, hm, hd⟩ := oamDmaFrom_fault hp.2 k 160 0 hk (by omega) (s.charge 4) hw hread herr
  refine ⟨m, (memWrite_dma_run hp).trans (hm.trans (congrArg _ ?_)), hd.of_charge⟩
  show ((s.withOam m).charge 4).charge (8 * k + 4) = _
  rw [State.charge_charge]
  congr 1
  omega

/-- A completed DMA is the store of R80 and R81. -/
theorem DmaOam.storeEffect {m : Memory} (h : DmaOam v 160 0 s m) : StoreEffect s 0xFF46 v ((s.withOam m).charge 1284) where
  byte e := absurd rfl e
  dma _ := by
    refine ⟨rfl, h.closed, fun ho => ⟨h.wf ho, fun i hi => ?_⟩⟩
    rw [dmaSource_eq]
    exact h.copied ho i (by omega) (by omega)
  cpu := ⟨rfl, rfl, rfl, rfl⟩
  frame b hb := by
    have hout : ¬ Within 0xFE00 0xFE9F b := fun hin => hb (.inr (.inr (.inr (.inr (.inr ⟨rfl, hin⟩)))))
    rw [busRead_charge, busRead_withOam_outside m hout]

/-- An allowed write completes, with the effect of R74 or R81. -/
theorem memWrite_completes (hw : s.MemoryWf) (h : WriteOk s a v) : ∃ t, memWrite a v s = .ok () t ∧ StoreEffect s a v t := by
  obtain ⟨hext, hdma⟩ := h
  by_cases ha : a = 0xFF46
  · subst ha
    obtain ⟨hlo, hhi, hr⟩ := hdma rfl
    obtain ⟨m, hm, hd⟩ := memWrite_dma_ok hw.oam ⟨hlo, hhi⟩ hr
    exact ⟨_, hm, hd.storeEffect⟩
  · obtain ⟨u, hu⟩ := busStore_ok (v := v) fun hlo hhi => hext ⟨hlo, hhi⟩
    exact ⟨_, memWrite_ok ha hu, busStore_storeEffect ha hu⟩

/-- Settles O21: the completed write, the two faults before any byte, the fault inside a copy. -/
theorem memWriteDoesWhatTheBusSays : Obligations.MemWriteDoesWhatTheBusSays := by
  intro s a v hw
  refine ⟨memWrite_completes hw, fun ha hen hi => ?_, memWrite_dma_badPage, fun k hk hlo hhi hr hf => ?_⟩
  · have hdma : a ≠ 0xFF46 := by rintro rfl; exact absurd ha (by decide)
    rw [memWrite_store hdma]
    exact memStore_error (busStore_extRam_outside ha hen hi)
  · obtain ⟨m, hm, hd⟩ := memWrite_dma_fault hk hw.oam ⟨hlo, hhi⟩ hr hf
    refine ⟨m, ?_, hd.closed, fun ho => ⟨fun i hi => ?_, fun i hi => hd.others i (.inr (by omega))⟩⟩
    · rw [hm, Nat.add_assoc]
      rfl
    · rw [dmaSource_eq]
      exact hd.copied ho i (by omega) (by omega)

end Sys2Proof.Machine
end

section
/-! PROOFS. What an operation keeps from one state on, and what MemWrite can leave, completed or faulted (20_memory.md R74,
R81; 60_exceptions.md R401). -/

namespace Sys2Proof.Machine

open Sys2Proof.Spec

variable {R : State → State → Prop} {α β : Type} {s t : State} {a b : Word} {v : Byte}

/-! What an operation keeps from one state. -/

/-- `m` run from `s` keeps `R`, whether it ends with a value or a fault; `Keeps R m` says it of every state. -/
def KeepsFrom (R : State → State → Prop) (m : M α) (s : State) : Prop :=
  match m s with
  | .ok _ t => R s t
  | .error _ t => R s t

theorem KeepsFrom.of_ok {m : M α} {x : α} (e : m s = .ok x t) (h : R s t) : KeepsFrom R m s := by
  rw [KeepsFrom, e]
  exact h

theorem KeepsFrom.of_error {m : M α} {f : Fault} (e : m s = .error f t) (h : R s t) : KeepsFrom R m s := by
  rw [KeepsFrom, e]
  exact h

theorem KeepsFrom.ok {m : M α} {x : α} (h : KeepsFrom R m s) (e : m s = .ok x t) : R s t := by
  rwa [KeepsFrom, e] at h

theorem KeepsFrom.error {m : M α} {f : Fault} (h : KeepsFrom R m s) (e : m s = .error f t) : R s t := by
  rwa [KeepsFrom, e] at h

theorem KeepsFrom.mono {R' : State → State → Prop} {m : M α} (h : KeepsFrom R m s) (hr : ∀ t, R s t → R' s t) :
    KeepsFrom R' m s := by
  cases e : m s with
  | ok x t => exact .of_ok e (hr t (h.ok e))
  | error f t => exact .of_error e (hr t (h.error e))

/-- A sequence keeps what its parts keep, the second from each state that the first leaves. -/
theorem KeepsFrom.bind {m : M α} {k : α → M β} (trans : ∀ {s t u}, R s t → R t u → R s u) (hm : KeepsFrom R m s)
    (hk : ∀ x t, m s = .ok x t → KeepsFrom R (k x) t) : KeepsFrom R (m >>= k) s := by
  cases e : m s with
  | error f t => exact .of_error (M.bind_error e) (hm.error e)
  | ok x t =>
    have hst := hm.ok e
    cases e' : k x t with
    | ok y u => exact .of_ok ((M.bind_ok e).trans e') (trans hst ((hk x t e).ok e'))
    | error f u => exact .of_error ((M.bind_ok e).trans e') (trans hst ((hk x t e).error e'))

theorem KeepsFrom.bind_view {g : State → α} {k : α → M β} (h : KeepsFrom R (k (g s)) s) : KeepsFrom R (view g >>= k) s := h

theorem KeepsFrom.bind_update {g : State → State} {k : Unit → M β} (trans : ∀ {s t u}, R s t → R t u → R s u)
    (hg : R s (g s)) (hk : KeepsFrom R (k ()) (g s)) : KeepsFrom R (update g >>= k) s :=
  .bind trans (.of_ok (update_run g) hg) fun _ _ e => by
    cases e
    exact hk

theorem KeepsFrom.answer (h : Closed R) (hf : ∀ s f, R s (s.withFault f)) {m : M Unit} (hm : KeepsFrom R m s)
    (e : Machine.answer m s = .next t) : R s t := by
  rcases answer_cases m s with ⟨u, hu, hanswer⟩ | ⟨f, u, hu, hanswer⟩ <;> rw [hanswer] at e <;> cases e
  · exact hm.ok hu
  · exact h.trans (hm.error hu) (hf u f)

/-! What MemWrite can leave. -/

/-- `t` is `s` with more cycles charged and another OAM: all that an OAM-DMA changes, completed or not (R81, R401). -/
def OnlyOam (s t : State) : Prop := ∃ m c, t = (s.withOam m).charge c

theorem OnlyOam.charge (s : State) (c : Nat) : OnlyOam s (s.charge c) := ⟨s.ppu.oam, c, rfl⟩

theorem OnlyOam.trans {s t u : State} : OnlyOam s t → OnlyOam t u → OnlyOam s u := by
  rintro ⟨m, c, rfl⟩ ⟨m', c', rfl⟩
  exact ⟨m', c + c', State.charge_charge (s.withOam m') c c'⟩

theorem memRead_onlyOam (a : Word) (s : State) : KeepsFrom OnlyOam (memRead a) s := by
  rcases memRead_cases a s with ⟨_, -, e⟩ | ⟨_, -, e⟩
  · exact .of_ok e (.charge s 4)
  · exact .of_error e (.charge s 4)

theorem memStore_oam_onlyOam {i : Nat} (hi : i < 160) (v : Byte) (s : State) :
    KeepsFrom OnlyOam (memStore (0xFE00 + BitVec.ofNat 16 i) v) s :=
  .of_ok (memStore_ok (busStore_oam (s.charge 4) hi v)) ⟨if s.ppu.oamOpen then s.ppu.oam.write i v else s.ppu.oam, 4, rfl⟩

theorem oamDmaFrom_onlyOam (page : Byte) (n i : Nat) (h : i + n ≤ 160) (s : State) :
    KeepsFrom OnlyOam (oamDmaFrom page n i) s := by
  induction n generalizing i s with
  | zero => exact .of_ok rfl (.charge s 0)
  | succ n ih =>
    refine .bind .trans (memRead_onlyOam _ s) fun x t _ => ?_
    exact .bind .trans (memStore_oam_onlyOam (by omega) x t) fun _ u _ => ih (i + 1) (by omega) u

theorem memWrite_dma_onlyOam (v : Byte) (s : State) : KeepsFrom OnlyOam (memWrite 0xFF46 v) s := by
  by_cases hp : v.toNat < 0x80 ∨ 0xDF < v.toNat
  · exact .of_error (memWrite_dma_badPage hp) (.charge s 4)
  · have hrun : memWrite 0xFF46 v = tick >>= fun _ => oamDmaFrom v 160 0 := by
      rw [← oamDma_goodPage (v := v) (by omega)]
      rfl
    rw [hrun]
    exact .bind .trans (.of_ok rfl (.charge s 4)) fun _ t _ => oamDmaFrom_onlyOam v 160 0 (by omega) t

/-- `t` is what MemWrite(a, v) may leave of `s`: the cycles alone, a bus write, or for an OAM-DMA another OAM. -/
def WriteLeaves (a : Word) (v : Byte) (s t : State) : Prop :=
  t = s.charge 4 ∨ (∃ u, busStore s a v = .ok u ∧ t = u.charge 4) ∨ (a = 0xFF46 ∧ OnlyOam s t)

theorem memWrite_leaves (a : Word) (v : Byte) (s : State) : KeepsFrom (WriteLeaves a v) (memWrite a v) s := by
  by_cases ha : a = 0xFF46
  · subst ha
    exact (memWrite_dma_onlyOam v s).mono fun t h => .inr (.inr ⟨rfl, h⟩)
  · cases hb : busStore s a v with
    | ok u => exact .of_ok (memWrite_ok ha hb) (.inr (.inl ⟨u, hb, rfl⟩))
    | error f =>
      have e : busStore (s.charge 4) a v = .error f := by
        rw [busStore_charge, hb]
        rfl
      rw [memWrite_store ha]
      exact .of_error (memStore_error e) (.inl rfl)

theorem WriteLeaves.regs (h : WriteLeaves a v s t) : t.regs = s.regs := by
  rcases h with rfl | ⟨u, hu, rfl⟩ | ⟨-, m, c, rfl⟩
  · rfl
  · obtain ⟨hregs, -⟩ := busStore_keeps hu
    exact hregs
  · rfl

/-- MemWrite changes no CPU register. -/
theorem memWrite_regs (a : Word) (v : Byte) (s : State) : KeepsFrom (fun s t => t.regs = s.regs) (memWrite a v) s :=
  (memWrite_leaves a v s).mono fun _ => WriteLeaves.regs

end Sys2Proof.Machine
end

section
/-! PROOFS. The memory frame of the instruction set: where each instruction stores, and that no other read changes
(20_memory.md R102; 60_exceptions.md R401 for the faulted answers). -/

namespace Sys2Proof.Machine

open Sys2Proof.Spec

variable {R : State → State → Prop} {s t : State} {a b : Word} {v : Byte}

/-! The read of one address. -/

/-- The address `b` reads alike in both states. -/
def SameRead (b : Word) (s t : State) : Prop := busRead t b = busRead s b

theorem sameRead_closed (b : Word) : Closed (SameRead b) where
  refl _ := rfl
  trans h h' := Eq.trans h' h
  charge _ _ := rfl
  setReg _ _ _ := busRead_setReg _ _ _
  setF _ _ := rfl
  setSp _ _ := rfl
  setPc _ _ := rfl

theorem sameRead_withFault (b : Word) (s : State) (f : Fault) : SameRead b s (s.withFault f) := rfl

/-- No store to `a` touches `b`, whatever the byte and the state. -/
def Untouched (b a : Word) : Prop := ∀ s v, ¬ Touches s a v b

/-- Of the state, Touches reads bit 7 of LCDC only, and over all bytes every value of that bit is one that toggles. -/
theorem untouched_of_forall (h : ∀ v, ¬ Touches s a v b) : Untouched b a := by
  intro s' v' htouch
  rcases htouch with hself | hen | hlo | hhi | ⟨rfl, -, hb⟩ | hdma
  · exact h v' (.inl hself)
  · exact h v' (.inr (.inl hen))
  · exact h v' (.inr (.inr (.inl hlo)))
  · exact h v' (.inr (.inr (.inr (.inl hhi))))
  · refine h (~~~s.ppu.lcdc) (.inr (.inr (.inr (.inr (.inl ⟨rfl, ?_, hb⟩)))))
    simp
  · exact h v' (.inr (.inr (.inr (.inr (.inr hdma)))))

theorem WriteLeaves.sameRead (hb : Untouched b a) (h : WriteLeaves a v s t) : SameRead b s t := by
  rcases h with rfl | ⟨u, hu, rfl⟩ | ⟨rfl, m, c, rfl⟩
  · rfl
  · exact busStore_frame hu b (hb s v)
  · have hout : ¬ Within 0xFE00 0xFE9F b := fun hin => hb s v (.inr (.inr (.inr (.inr (.inr ⟨rfl, hin⟩)))))
    show busRead ((s.withOam m).charge c) b = busRead s b
    rw [busRead_charge, busRead_withOam_outside m hout]

theorem memWrite_sameRead (hb : Untouched b a) (v : Byte) : Keeps (SameRead b) (memWrite a v) :=
  fun s => (memWrite_leaves a v s).mono fun _ => WriteLeaves.sameRead hb

/-! Where an operation stores. -/

/-- The storing operations with the addresses they store to, as functions of the state they start in. -/
inductive StoresAt : M Unit → (State → List Word) → Prop where
  | ldMemReg (addr : State → Word) (src : R8) : StoresAt (ldMemReg addr src) fun s => [addr s]
  | ldHlImm (n : Byte) : StoresAt (ldHlImm n) fun s => [s.hl]
  | ldHlStepA (delta : Word) : StoresAt (ldHlStepA delta) fun s => [s.hl]
  | ldMemSp (nn : Word) : StoresAt (ldMemSp nn) fun _ => [nn, nn + 1]
  | pushPair (p : Rp2) : StoresAt (pushPair p) fun s => [s.regs.sp - 1, s.regs.sp - 2]
  | incMem : StoresAt incMem fun s => [s.hl]
  | decMem : StoresAt decMem fun s => [s.hl]
  | callAbs (nn : Word) : StoresAt (callAbs nn) fun s => [s.regs.sp - 1, s.regs.sp - 2]
  | callIf (cc : Cond) (nn : Word) :
      StoresAt (ifCond cc (callAbs nn)) fun s => if s.cond cc then [s.regs.sp - 1, s.regs.sp - 2] else []
  | cbRotHl (op : RotOp) : StoresAt (cbRot op .hl) fun s => [s.hl]
  | cbResHl (k : BitVec 3) : StoresAt (cbRes k .hl) fun s => [s.hl]
  | cbSetHl (k : BitVec 3) : StoresAt (cbSet k .hl) fun s => [s.hl]
  | cbPrefixed : StoresAt cbPrefixed fun s => [s.hl]

theorem highPage_eq (n : Byte) : highPage n = 0xFF00 + n.setWidth 16 := by
  revert n; decide

/-- Every meaning but those of HALT, DI, EI and RETI writes registers only, or stores where `storesTo` says. -/
theorem exec_storesAt (i : Instr) (hi : i ≠ .halt ∧ i ≠ .di ∧ i ≠ .ei ∧ i ≠ .reti) :
    ∃ m, (∀ s, exec i s = answer m s) ∧ (PlainOp m ∨ StoresAt m (storesTo i)) := by
  have high : ∀ (i : Instr) (n : State → Byte), (∀ s, storesTo i s = [0xFF00 + (n s).setWidth 16]) →
      StoresAt (ldMemReg (fun s => highPage (n s)) .a) (storesTo i) := fun i n h => by
    rw [show storesTo i = fun s => [highPage (n s)] from funext fun s => by rw [h, highPage_eq]]
    exact .ldMemReg _ _
  obtain ⟨hhalt, hdi, hei, hreti⟩ := hi
  cases i
  case halt => exact absurd rfl hhalt
  case di => exact absurd rfl hdi
  case ei => exact absurd rfl hei
  case reti => exact absurd rfl hreti
  case ldhAtNA n => exact ⟨_, fun _ => rfl, .inr (high _ (fun _ => n) fun _ => rfl)⟩
  case ldAtCA => exact ⟨_, fun _ => rfl, .inr (high _ (fun s => s.regs.c) fun _ => rfl)⟩
  case ldAtBCA | ldAtDEA | ldAtNnA | ldAtHLB | ldAtHLC | ldAtHLD | ldAtHLE | ldAtHLH | ldAtHLL | ldAtHLA =>
    exact ⟨ldMemReg _ _, fun _ => rfl, .inr (.ldMemReg _ _)⟩
  case ldAtHLn => exact ⟨_, fun _ => rfl, .inr (.ldHlImm _)⟩
  case ldAtHLIncA | ldAtHLDecA => exact ⟨ldHlStepA _, fun _ => rfl, .inr (.ldHlStepA _)⟩
  case ldAtNnSP => exact ⟨_, fun _ => rfl, .inr (.ldMemSp _)⟩
  case pushBC | pushDE | pushHL | pushAF => exact ⟨pushPair _, fun _ => rfl, .inr (.pushPair _)⟩
  case incAtHL => exact ⟨_, fun _ => rfl, .inr .incMem⟩
  case decAtHL => exact ⟨_, fun _ => rfl, .inr .decMem⟩
  case callnn | rst00 | rst08 | rst10 | rst18 | rst20 | rst28 | rst30 | rst38 =>
    exact ⟨callAbs _, fun _ => rfl, .inr (.callAbs _)⟩
  case callNZnn | callZnn | callNCnn | callCnn => exact ⟨ifCond _ (callAbs _), fun _ => rfl, .inr (.callIf _ _)⟩
  case rlcAtHL | rrcAtHL | rlAtHL | rrAtHL | slaAtHL | sraAtHL | swapAtHL | srlAtHL =>
    exact ⟨cbRot _ .hl, fun _ => rfl, .inr (.cbRotHl _)⟩
  case res0AtHL | res1AtHL | res2AtHL | res3AtHL | res4AtHL | res5AtHL | res6AtHL | res7AtHL =>
    exact ⟨cbRes _ .hl, fun _ => rfl, .inr (.cbResHl _)⟩
  case set0AtHL | set1AtHL | set2AtHL | set3AtHL | set4AtHL | set5AtHL | set6AtHL | set7AtHL =>
    exact ⟨cbSet _ .hl, fun _ => rfl, .inr (.cbSetHl _)⟩
  case cbPrefix => exact ⟨_, fun _ => rfl, .inr .cbPrefixed⟩
  all_goals
    dsimp only [exec]
    exact ⟨_, fun _ => rfl, .inl (by with_reducible constructor)⟩

/-! A storing operation changes no read that its addresses do not touch. -/

theorem hl_of_regs (h : t.regs = s.regs) : t.hl = s.hl := by
  rw [State.hl, h]
  rfl

theorem memRead_hl {x : Byte} (e : memRead a s = .ok x t) : t.hl = s.hl := by
  obtain ⟨m, c, rfl⟩ := (memRead_onlyOam a s).ok e
  rfl

theorem fetch8_hl {x : Byte} (e : fetch8 s = .ok x t) : t.hl = s.hl := by
  cases hr : busRead s s.regs.pc with
  | ok y => rw [fetch8_ok hr] at e; cases e; rfl
  | error f => rw [fetch8_error hr] at e; cases e

/-- INC (HL) and DEC (HL): the byte at HL is read and replaced, then flags are set. -/
theorem modifyHl_sameRead (hb : Untouched b s.hl) (f : Byte → Byte) (g : Byte → State → Flags) :
    KeepsFrom (SameRead b) (do
      let v ← memRead (← view State.hl)
      memWrite (← view State.hl) (f v)
      update fun s => s.setFlags (g v s)) s := by
  have h := sameRead_closed b
  refine .bind_view (.bind h.trans (h.memRead s.hl s) fun x t e => .bind_view ?_)
  exact .bind h.trans (memWrite_sameRead (memRead_hl e ▸ hb) (f x) t) fun _ u _ => h.setFlags u _

/-- The high byte goes to SP - 1, then the low byte to SP - 2 (R98). -/
theorem push16_sameRead (hhi : Untouched b (s.regs.sp - 1)) (hlo : Untouched b (s.regs.sp - 2)) (v : Word) :
    KeepsFrom (SameRead b) (push16 v) s := by
  have h := sameRead_closed b
  unfold push16
  refine .bind_update h.trans (h.setSp s _) (.bind_view ?_)
  refine .bind h.trans (memWrite_sameRead hhi (hiByte v) _) fun _ u e => ?_
  have hsp : u.regs.sp - 1 = s.regs.sp - 2 := by
    rw [(memWrite_regs _ _ _).ok e]
    show s.regs.sp - 1 - 1 = _
    bv_omega
  refine .bind_update h.trans (h.setSp u _) (.bind_view ?_)
  exact memWrite_sameRead (hsp ▸ hlo) (loByte v) _

theorem callAbs_sameRead (hhi : Untouched b (s.regs.sp - 1)) (hlo : Untouched b (s.regs.sp - 2)) (nn : Word) :
    KeepsFrom (SameRead b) (callAbs nn) s := by
  have h := sameRead_closed b
  unfold callAbs
  refine .bind_update h.trans (h.charge s 4) (.bind_view ?_)
  exact .bind h.trans (push16_sameRead (s := s.charge 4) hhi hlo _) fun _ u _ => h.setPc u nn

theorem cbPut_hl_sameRead (hb : Untouched b s.hl) (v : Byte) : KeepsFrom (SameRead b) (cbPut .hl v) s :=
  .bind_view (memWrite_sameRead hb v s)

theorem cbGet_hl {x : Byte} (e : cbGet .hl s = .ok x t) : t.hl = s.hl := memRead_hl (a := s.hl) e

theorem cbRot_sameRead (hb : Untouched b s.hl) (op : RotOp) : KeepsFrom (SameRead b) (cbRot op .hl) s := by
  have h := sameRead_closed b
  unfold cbRot
  refine .bind h.trans (h.cbGet .hl s) fun x t e => .bind_view ?_
  exact .bind h.trans (cbPut_hl_sameRead (cbGet_hl e ▸ hb) _) fun _ u _ => h.setFlags u _

theorem cbRes_sameRead (hb : Untouched b s.hl) (k : BitVec 3) : KeepsFrom (SameRead b) (cbRes k .hl) s := by
  have h := sameRead_closed b
  exact .bind h.trans (h.cbGet .hl s) fun x t e => cbPut_hl_sameRead (cbGet_hl e ▸ hb) _

theorem cbSet_sameRead (hb : Untouched b s.hl) (k : BitVec 3) : KeepsFrom (SameRead b) (cbSet k .hl) s := by
  have h := sameRead_closed b
  exact .bind h.trans (h.cbGet .hl s) fun x t e => cbPut_hl_sameRead (cbGet_hl e ▸ hb) _

/-- A sub-opcode's rule stores to HL, or to a register. -/
theorem cbRule_sameRead (hb : Untouched b s.hl) (op2 : Byte) : KeepsFrom (SameRead b) (cbRule op2) s := by
  have h := sameRead_closed b
  unfold cbRule
  split
  · cases cbOperandOf (fieldZ op2) with
    | reg r => exact h.plain (.cbRotReg _ r) s
    | hl => exact cbRot_sameRead hb _
  · exact h.plain (.cbBit _ _) s
  · cases cbOperandOf (fieldZ op2) with
    | reg r => exact h.plain (.cbResReg _ r) s
    | hl => exact cbRes_sameRead hb _
  · cases cbOperandOf (fieldZ op2) with
    | reg r => exact h.plain (.cbSetReg _ r) s
    | hl => exact cbSet_sameRead hb _

theorem cbPrefixed_sameRead (hb : Untouched b s.hl) : KeepsFrom (SameRead b) cbPrefixed s := by
  have h := sameRead_closed b
  unfold cbPrefixed
  refine .bind h.trans (h.fetch8 s) fun op2 t e => .bind_view ?_
  split
  · exact h.raiseDecode (α := Unit) 2 op2 t
  · exact cbRule_sameRead (fetch8_hl e ▸ hb) op2

theorem storesAt_sameRead {m : M Unit} {addrs : State → List Word} (hm : StoresAt m addrs)
    (hb : ∀ a ∈ addrs s, Untouched b a) : KeepsFrom (SameRead b) m s := by
  have h := sameRead_closed b
  cases hm
  case ldMemReg addr src => exact .bind_view (.bind_view (memWrite_sameRead (hb (addr s) (by simp)) _ s))
  case ldHlImm n => exact .bind_view (memWrite_sameRead (hb s.hl (by simp)) n s)
  case ldHlStepA delta =>
    have hstore : KeepsFrom (SameRead b) (ldMemReg State.hl .a) s :=
      .bind_view (.bind_view (memWrite_sameRead (hb s.hl (by simp)) _ s))
    exact .bind h.trans hstore fun _ t _ => h.setHl t _
  case ldMemSp nn =>
    refine .bind_view (.bind h.trans (memWrite_sameRead (hb nn (by simp)) _ s) fun _ t _ => .bind_view ?_)
    exact memWrite_sameRead (hb (nn + 1) (by simp)) _ t
  case pushPair p =>
    refine .bind_update h.trans (h.charge s 4) (.bind_view ?_)
    exact push16_sameRead (s := s.charge 4) (hb (s.regs.sp - 1) (by simp)) (hb (s.regs.sp - 2) (by simp)) _
  case incMem => exact modifyHl_sameRead (hb s.hl (by simp)) inc8 fun v s => incFlags s.flags v
  case decMem => exact modifyHl_sameRead (hb s.hl (by simp)) dec8 fun v s => decFlags s.flags v
  case callAbs nn => exact callAbs_sameRead (hb (s.regs.sp - 1) (by simp)) (hb (s.regs.sp - 2) (by simp)) nn
  case callIf cc nn =>
    refine .bind_view ?_
    split
    · next hcc =>
      exact callAbs_sameRead (hb (s.regs.sp - 1) (by simp [hcc])) (hb (s.regs.sp - 2) (by simp [hcc])) nn
    · exact h.refl s
  case cbRotHl op => exact cbRot_sameRead (hb s.hl (by simp)) op
  case cbResHl k => exact cbRes_sameRead (hb s.hl (by simp)) k
  case cbSetHl k => exact cbSet_sameRead (hb s.hl (by simp)) k
  case cbPrefixed => exact cbPrefixed_sameRead (hb s.hl (by simp))

/-- HALT, DI, EI and RETI store nothing. -/
theorem imeOps_sameRead {i : Instr} (hi : i = .halt ∨ i = .di ∨ i = .ei ∨ i = .reti) (e : exec i s = .next t) :
    SameRead b s t := by
  have h := sameRead_closed b
  rcases hi with rfl | rfl | rfl | rfl
  · rw [exec_halt_next e]
    split <;> rfl
  · rw [exec_di_next e]; rfl
  · rw [exec_ei_next e]; rfl
  · exact (h.returnFromInterrupt fun _ => rfl).answer h (sameRead_withFault b) e

/-- Settles O17: a plain operation changes no read, and a storing one only those that its addresses touch. -/
theorem readsChangeOnlyWhereAStoreTouches : Obligations.ReadsChangeOnlyWhereAStoreTouches := by
  intro i s t b e hb
  have h := sameRead_closed b
  by_cases hi : i ≠ .halt ∧ i ≠ .di ∧ i ≠ .ei ∧ i ≠ .reti
  · obtain ⟨m, hm, hplain | hstores⟩ := exec_storesAt i hi <;> rw [hm] at e
    · exact (h.plain hplain).answer h (sameRead_withFault b) e
    · have hkeeps := storesAt_sameRead hstores fun a ha => untouched_of_forall (hb a ha)
      exact hkeeps.answer h (sameRead_withFault b) e
  · exact imeOps_sameRead (halt_di_ei_reti hi) e

end Sys2Proof.Machine
end

section
/-! PROOFS. Construction reads the ROM header (20_memory.md R94; 70_reset_and_hazards.md R500). -/

namespace Sys2Proof.Machine

variable {p : Params} {size : Nat} {bytes : List Host.Cell}

theorem bankCount_le {n : Nat} (h : n ≤ 8) : bankCount n = some (2 * 2 ^ n) := by
  rw [bankCount, if_pos h, Nat.shiftLeft_eq]

theorem bankCount_gt {n : Nat} (h : 8 < n) : bankCount n = none := if_neg (by omega)

theorem cramSizeOf_le {n : Nat} (h : n ≤ 5) :
    cramSizeOf n = some ([0, 0x800, 0x2000, 0x8000, 0x20000, 0x10000].getD n 0) := by
  interval_cases n <;> rfl

theorem cramSizeOf_gt {n : Nat} (h : 5 < n) : cramSizeOf n = none := by
  obtain ⟨k, rfl⟩ : ∃ k, n = k + 6 := ⟨n - 6, by omega⟩
  rfl

/-- The image that Construct makes of its bytes. -/
def imageOf (size : Nat) (bytes : List Host.Cell) : Rom := { size := size, bytes := Memory.ofCells size bytes }

/-- What R94 accepts: the header is there, and both size codes are listed. -/
def HeaderOk (size : Nat) (bytes : List Host.Cell) : Prop :=
  0x150 ≤ size ∧ ((imageOf size bytes).byte 0x0148).toNat ≤ 8 ∧ ((imageOf size bytes).byte 0x0149).toNat ≤ 5

theorem construct_of_header (h : HeaderOk size bytes) : ∃ s, construct p size bytes = some s ∧ s.cart.rom = imageOf size bytes ∧
    s.cart.nbanks = 2 * 2 ^ ((imageOf size bytes).byte 0x0148).toNat ∧
    s.cart.cramSize = [0, 0x800, 0x2000, 0x8000, 0x20000, 0x10000].getD ((imageOf size bytes).byte 0x0149).toNat 0 ∧
    s.regs = initRegs p.cpu ∧ s.ime = false ∧ s.halted = false ∧ s.cyc = 0 ∧ s.fault = none ∧ s.ppu = initPpu p := by
  obtain ⟨hsize, hrom, hram⟩ := h
  unfold construct
  rw [if_neg (by omega)]
  have hbanks := bankCount_le hrom
  have hcram := cramSizeOf_le hram
  unfold imageOf at hbanks hcram ⊢
  rw [hbanks, hcram]
  exact ⟨_, rfl, rfl, rfl, rfl, rfl, rfl, rfl, rfl, rfl, rfl⟩

theorem construct_of_not_header (h : ¬ HeaderOk size bytes) : construct p size bytes = none := by
  unfold construct
  by_cases hsize : size < 0x150
  · rw [if_pos hsize]
  rw [if_neg hsize]
  by_cases hrom : ((imageOf size bytes).byte 0x0148).toNat ≤ 8
  · have hram : 5 < ((imageOf size bytes).byte 0x0149).toNat := by
      by_contra hle
      exact h ⟨by omega, hrom, by omega⟩
    have hcram := cramSizeOf_gt hram
    unfold imageOf at hcram
    rw [hcram]
    cases bankCount _ <;> rfl
  · have hbanks := bankCount_gt (Nat.lt_of_not_le hrom)
    unfold imageOf at hbanks
    rw [hbanks]

/-- Settles O2: construction succeeds exactly on the headers of R94. -/
theorem constructionChecksTheRomHeader : Obligations.ConstructionChecksTheRomHeader := by
  intro p size bytes
  have hrefuse : ¬ HeaderOk size bytes ↔ size < 0x150 ∨ 8 < ((imageOf size bytes).byte 0x0148).toNat ∨
      5 < ((imageOf size bytes).byte 0x0149).toNat := by
    unfold HeaderOk
    omega
  by_cases h : HeaderOk size bytes
  · obtain ⟨t, ht, hrom, hbanks, hcram, hregs, hime, hhalted, hcyc, hfault, hppu⟩ := construct_of_header (p := p) h
    rw [ht]
    refine ⟨⟨fun hnone => absurd hnone (Option.some_ne_none t), fun hbad => absurd h (hrefuse.2 hbad)⟩, ?_⟩
    rintro _ ⟨⟩
    exact ⟨hrom, hbanks, hcram, hregs, hime, hhalted, hcyc, hfault, by rw [hppu]; rfl, by rw [hppu]; rfl, by rw [hppu]; rfl⟩
  · rw [construct_of_not_header h]
    exact ⟨⟨fun _ => hrefuse.1 h, fun _ => rfl⟩, fun s hs => absurd hs.symm (Option.some_ne_none s)⟩

end Sys2Proof.Machine
end

section
/-! PROOFS. The decoder and the encoder agree, in both directions (30_encoding.md R120 to R134). -/

namespace Sys2Proof

variable {op b1 b2 c1 c2 : Byte} {i j : Instr} {bs t rest : List Byte}

/-! The encoder's bytes are read back. -/

/-- One case for each row; only STOP's byte and the halves of a 16-bit immediate ask for more than evaluation. -/
theorem decode_encode (h : i.wellFormed = true) : decode (encode i) = .instr i [] := by
  cases i
  case stop u =>
    obtain rfl : u = 0x00 := of_decide_eq_true h
    rfl
  case ldBCnn nn | ldAtNnSP nn | ldDEnn nn | ldHLnn nn | ldSPnn nn | jpNZnn nn | jpnn nn | callNZnn nn | jpZnn nn |
      callZnn nn | callnn nn | jpNCnn nn | callNCnn nn | jpCnn nn | callCnn nn | ldAtNnA nn | ldAAtNn nn =>
    conv_rhs => rw [← imm16_split nn]
    rfl
  all_goals rfl

theorem encode_injective (hi : i.wellFormed = true) (hj : j.wellFormed = true) (h : encode i = encode j) : i = j := by
  have hd := decode_encode hi
  rw [h, decode_encode hj] at hd
  cases hd
  rfl

/-! What an opcode byte and its operand bytes stand for. -/

/-- The decoder reads `i` from the opcode byte and the operand bytes it announces, and `i` is encoded in them. -/
structure Reads (op b1 b2 : Byte) (i : Instr) : Prop where
  decoded : decodeOp op b1 b2 = .ok i
  wellFormed : i.wellFormed = true
  encoded : encode i = op :: [b1, b2].take (operandBytes op)

theorem operandBytes_le_two (op : Byte) : operandBytes op ≤ 2 := by
  revert op; decide

theorem fields_append (op : Byte) : fieldX op ++ fieldY op ++ fieldZ op = op := by
  revert op; decide

theorem selector2_cases (x : BitVec 2) : x = 0 ∨ x = 1 ∨ x = 2 ∨ x = 3 := by
  revert x; decide

theorem selector3_cases (y : BitVec 3) : y = 0 ∨ y = 1 ∨ y = 2 ∨ y = 3 ∨ y = 4 ∨ y = 5 ∨ y = 6 ∨ y = 7 := by
  revert y; decide

/-- An opcode byte with a known x by its other fields (R121). -/
theorem byte_of_fieldX {x : BitVec 2} (h : fieldX op = x) : ∃ y z : BitVec 3, op = x ++ y ++ z :=
  ⟨fieldY op, fieldZ op, by rw [← h, fields_append]⟩

/-- Any two operand bytes are the halves of a 16-bit immediate (R127). -/
theorem operands_eq_halves (b1 b2 : Byte) : ∃ nn : Word, nn.extractLsb' 0 8 = b1 ∧ nn.extractLsb' 8 8 = b2 :=
  ⟨imm16 b1 b2, imm16_low b1 b2, imm16_high b1 b2⟩

/-- The rows with x = 0 (R133), by z and then y. -/
theorem exists_reads_x0 (hx : fieldX op = 0) (hstop : op ≠ 0x10) (b1 b2 : Byte) : ∃ i, Reads op b1 b2 i := by
  obtain ⟨nn, rfl, rfl⟩ := operands_eq_halves b1 b2
  have hrow : ∃ i, decodeX0 op (nn.extractLsb' 0 8) (nn.extractLsb' 8 8) = .ok i ∧ i.wellFormed = true ∧
      encode i = op :: [nn.extractLsb' 0 8, nn.extractLsb' 8 8].take (operandBytes op) := by
    unfold decodeX0
    rw [imm16_split]
    obtain ⟨y, z, rfl⟩ := byte_of_fieldX hx
    rcases selector3_cases z with rfl | rfl | rfl | rfl | rfl | rfl | rfl | rfl
    case inl => -- z = 0
      rcases selector3_cases y with rfl | rfl | rfl | rfl | rfl | rfl | rfl | rfl
      case inr.inr.inl => exact absurd rfl hstop -- y = 2
      all_goals exact ⟨_, rfl, rfl, rfl⟩
    all_goals
      rcases selector3_cases y with rfl | rfl | rfl | rfl | rfl | rfl | rfl | rfl <;> exact ⟨_, rfl, rfl, rfl⟩
  obtain ⟨i, hd, hw, he⟩ := hrow
  exact ⟨i, by rw [decodeOp, hx]; exact hd, hw, he⟩

/-- The rows with x = 1 have no operand byte. -/
theorem reads_x1 (hx : fieldX op = 1) (b1 b2 : Byte) : Reads op b1 b2 (decodeX1 op) := by
  have hrow : ∀ op, fieldX op = 1 →
      (decodeX1 op).wellFormed = true ∧ encode (decodeX1 op) = [op] ∧ operandBytes op = 0 := by decide
  obtain ⟨hw, he, hlen⟩ := hrow op hx
  exact ⟨by rw [decodeOp, hx]; rfl, hw, by rw [he, hlen]; rfl⟩

/-- The rows with x = 2 have no operand byte. -/
theorem reads_x2 (hx : fieldX op = 2) (b1 b2 : Byte) : Reads op b1 b2 (decodeX2 op) := by
  have hrow : ∀ op, fieldX op = 2 →
      (decodeX2 op).wellFormed = true ∧ encode (decodeX2 op) = [op] ∧ operandBytes op = 0 := by decide
  obtain ⟨hw, he, hlen⟩ := hrow op hx
  exact ⟨by rw [decodeOp, hx]; rfl, hw, by rw [he, hlen]; rfl⟩

/-- The 256 sub-opcodes (R134). -/
theorem reads_cb (b1 b2 : Byte) : Reads 0xCB b1 b2 (decodeCb b1) := by
  have hrow : ∀ op2, (decodeCb op2).wellFormed = true ∧ encode (decodeCb op2) = [0xCB, op2] := by decide
  obtain ⟨hw, he⟩ := hrow b1
  exact ⟨rfl, hw, he⟩

/-- The rows with x = 3 (R133), by z and then y. -/
theorem exists_reads_x3 (hx : fieldX op = 3) (hcb : op ≠ 0xCB) (b1 b2 : Byte) : ∃ i, Reads op b1 b2 i := by
  obtain ⟨nn, rfl, rfl⟩ := operands_eq_halves b1 b2
  have hrow : ∃ i, decodeX3 op (nn.extractLsb' 0 8) (nn.extractLsb' 8 8) = i ∧ i.wellFormed = true ∧
      encode i = op :: [nn.extractLsb' 0 8, nn.extractLsb' 8 8].take (operandBytes op) := by
    unfold decodeX3
    rw [imm16_split]
    obtain ⟨y, z, rfl⟩ := byte_of_fieldX hx
    rcases selector3_cases z with rfl | rfl | rfl | rfl | rfl | rfl | rfl | rfl
    case inr.inr.inr.inl => -- z = 3
      rcases selector3_cases y with rfl | rfl | rfl | rfl | rfl | rfl | rfl | rfl
      case inr.inl => exact absurd rfl hcb -- y = 1
      all_goals exact ⟨_, rfl, rfl, rfl⟩
    all_goals
      rcases selector3_cases y with rfl | rfl | rfl | rfl | rfl | rfl | rfl | rfl <;> exact ⟨_, rfl, rfl, rfl⟩
  obtain ⟨i, hd, hw, he⟩ := hrow
  exact ⟨i, by rw [decodeOp, hx]; exact congrArg _ hd, hw, he⟩

/-- Every opcode byte stands for an instruction, unless it is STOP's and a nonzero byte follows (R129, R131). -/
theorem exists_reads (h : ¬(op = 0x10 ∧ b1 ≠ 0x00)) (b2 : Byte) : ∃ i, Reads op b1 b2 i := by
  by_cases hstop : op = 0x10
  · obtain rfl : b1 = 0x00 := by_contra fun hb => h ⟨hstop, hb⟩
    subst hstop
    exact ⟨.stop 0x00, rfl, rfl, rfl⟩
  by_cases hcb : op = 0xCB
  · exact hcb ▸ ⟨_, reads_cb b1 b2⟩
  rcases selector2_cases (fieldX op) with hx | hx | hx | hx
  · exact exists_reads_x0 hx hstop b1 b2
  · exact ⟨_, reads_x1 hx b1 b2⟩
  · exact ⟨_, reads_x2 hx b1 b2⟩
  · exact exists_reads_x3 hx hcb b1 b2

theorem decodeOp_stop (hb : b1 ≠ 0x00) (b2 : Byte) : decodeOp 0x10 b1 b2 = .error (.stopTrailing b1) := if_neg hb

theorem reads_of_decodeOp (h : decodeOp op b1 b2 = .ok i) : Reads op b1 b2 i := by
  obtain ⟨j, hj⟩ := exists_reads (op := op) (b1 := b1) (by
    rintro ⟨rfl, hb⟩
    rw [decodeOp_stop hb] at h
    cases h) b2
  obtain rfl : j = i := Except.ok.inj (hj.decoded.symm.trans h)
  exact hj

/-- The bytes past the announced length have no effect. -/
theorem decodeOp_congr (h : decodeOp op b1 b2 = .ok i)
    (heq : [b1, b2].take (operandBytes op) = [c1, c2].take (operandBytes op)) : decodeOp op c1 c2 = .ok i := by
  by_cases hstop : op = 0x10
  · subst hstop
    obtain rfl : b1 = c1 := (List.cons.inj heq).1
    exact h
  obtain ⟨j, hj⟩ := exists_reads (op := op) (b1 := c1) (fun hand => hstop hand.1) c2
  have hi := reads_of_decodeOp h
  obtain rfl : j = i := encode_injective hj.wellFormed hi.wellFormed (by rw [hj.encoded, hi.encoded, heq])
  exact hj.decoded

/-! `decode` on a list of bytes. -/

theorem decode_of_ok (hlen : operandBytes op ≤ t.length) (h : decodeOp op (t.getD 0 0) (t.getD 1 0) = .ok i) :
    decode (op :: t) = .instr i (t.drop (operandBytes op)) := by
  rw [decode, if_neg (Nat.not_lt.2 hlen), h]

theorem decode_of_error {r : Reject} (hlen : operandBytes op ≤ t.length)
    (h : decodeOp op (t.getD 0 0) (t.getD 1 0) = .error r) : decode (op :: t) = .rejected r := by
  rw [decode, if_neg (Nat.not_lt.2 hlen), h]

/-- What the decoder reads is the 0xCB byte alone, or a complete instruction at the head of the bytes. -/
theorem decode_eq_instr (h : decode bs = .instr i rest) :
    (i = .cbPrefix ∧ bs = 0xCB :: rest) ∨
      ∃ op t, bs = op :: t ∧ operandBytes op ≤ t.length ∧ decodeOp op (t.getD 0 0) (t.getD 1 0) = .ok i ∧
        rest = t.drop (operandBytes op) := by
  match bs with
  | [] => cases h
  | op :: t =>
    rw [decode] at h
    split at h
    · split at h
      · next hcb => cases h; exact .inl ⟨rfl, by rw [hcb]⟩
      · cases h
    · next hlen =>
      cases hd : decodeOp op (t.getD 0 0) (t.getD 1 0) with
      | ok j =>
        rw [hd] at h
        cases h
        exact .inr ⟨op, t, rfl, Nat.not_lt.1 hlen, hd, rfl⟩
      | error r => rw [hd] at h; cases h

/-- The operand bytes that `decode` looks at are those after the opcode byte. -/
theorem take_getD {n : Nat} (hn : n ≤ 2) (hlen : n ≤ t.length) : [t.getD 0 0, t.getD 1 0].take n = t.take n := by
  match n, t with
  | 0, _ => rfl
  | 1, _ :: _ => rfl
  | 2, _ :: _ :: _ => rfl

/-- Bytes after a complete instruction are left over. -/
theorem decode_append (hi : i ≠ .cbPrefix) (h : decode bs = .instr i []) (rest : List Byte) :
    decode (bs ++ rest) = .instr i rest := by
  obtain ⟨hcb, -⟩ | ⟨op, t, rfl, hlen, hd, hdrop⟩ := decode_eq_instr h
  · exact absurd hcb hi
  have htwo := operandBytes_le_two op
  have hlen' : operandBytes op = t.length := le_antisymm hlen (List.drop_eq_nil_iff.1 hdrop.symm)
  have hle : operandBytes op ≤ (t ++ rest).length := by rw [List.length_append]; omega
  have hsame : decodeOp op ((t ++ rest).getD 0 0) ((t ++ rest).getD 1 0) = .ok i :=
    decodeOp_congr hd (by rw [take_getD htwo hlen, take_getD htwo hle, List.take_append_of_le_length hlen])
  rw [List.cons_append, decode_of_ok hle hsame, hlen', List.drop_left]

/-- Settles O7: an instruction's own bytes decode to it, and bytes appended to them are left over. -/
theorem decodeInvertsEncode : Obligations.DecodeInvertsEncode :=
  ⟨fun _ rest hw hi => decode_append hi (decode_encode hw) rest, rfl⟩

/-- Settles O8: the 0xCB byte alone, or a complete instruction, whose encoding is the bytes the decoder took. -/
theorem encodeInvertsDecode : Obligations.EncodeInvertsDecode := by
  intro bs i rest h
  obtain ⟨rfl, rfl⟩ | ⟨op, t, rfl, hlen, hd, rfl⟩ := decode_eq_instr h
  · exact ⟨rfl, rfl⟩
  · have hi := reads_of_decodeOp hd
    refine ⟨hi.wellFormed, ?_⟩
    rw [hi.encoded, take_getD (operandBytes_le_two op) hlen, List.cons_append, List.take_append_drop]

/-- Settles O9: three bytes are at least what an opcode byte announces, so all that matters is which of them `exists_reads`
leaves out. -/
theorem onlyStopRejectsACompleteWord : Obligations.OnlyStopRejectsACompleteWord := by
  intro op b1 b2
  refine ⟨?_, fun h => ?_⟩
  · rintro ⟨rfl, hb⟩
    exact decode_of_error (by decide : operandBytes 0x10 ≤ 2) (decodeOp_stop hb b2)
  · obtain ⟨i, hi⟩ := exists_reads h b2
    have htwo := operandBytes_le_two op
    exact ⟨i, _, decode_of_ok htwo hi.decoded, List.length_drop, htwo⟩

/-- Settles O10: each word evaluates to its row. -/
theorem specWordsDecode : Obligations.SpecWordsDecode := by
  unfold Obligations.SpecWordsDecode
  decide

end Sys2Proof
end

section
/-! PROOFS. The rows of the 0xCB table by their fields, and the row that fetches its sub-byte itself (43_cb_prefix.md R290). -/

namespace Sys2Proof.Machine

variable {s : State}

/-! A family's meaning by its operand selectors. -/

theorem exec_rotR (op : RotOp) (r : R8) (s : State) : exec (Row.rotR op r) s = answer (cbRot op (.reg r)) s := by
  cases op <;> cases r <;> rfl

theorem exec_rotHl (op : RotOp) (s : State) : exec (Row.rotHl op) s = answer (cbRot op .hl) s := by
  cases op <;> rfl

theorem exec_bitR (b : BitVec 3) (r : R8) (s : State) : exec (Row.bitR b r) s = answer (cbBit b (.reg r)) s := by
  rcases selector3_cases b with rfl | rfl | rfl | rfl | rfl | rfl | rfl | rfl <;> cases r <;> rfl

theorem exec_bitHl (b : BitVec 3) (s : State) : exec (Row.bitHl b) s = answer (cbBit b .hl) s := by
  rcases selector3_cases b with rfl | rfl | rfl | rfl | rfl | rfl | rfl | rfl <;> rfl

theorem exec_resR (b : BitVec 3) (r : R8) (s : State) : exec (Row.resR b r) s = answer (cbRes b (.reg r)) s := by
  rcases selector3_cases b with rfl | rfl | rfl | rfl | rfl | rfl | rfl | rfl <;> cases r <;> rfl

theorem exec_resHl (b : BitVec 3) (s : State) : exec (Row.resHl b) s = answer (cbRes b .hl) s := by
  rcases selector3_cases b with rfl | rfl | rfl | rfl | rfl | rfl | rfl | rfl <;> rfl

theorem exec_setR (b : BitVec 3) (r : R8) (s : State) : exec (Row.setR b r) s = answer (cbSet b (.reg r)) s := by
  rcases selector3_cases b with rfl | rfl | rfl | rfl | rfl | rfl | rfl | rfl <;> cases r <;> rfl

theorem exec_setHl (b : BitVec 3) (s : State) : exec (Row.setHl b) s = answer (cbSet b .hl) s := by
  rcases selector3_cases b with rfl | rfl | rfl | rfl | rfl | rfl | rfl | rfl <;> rfl

/-- The row that the decoder reads from a sub-opcode means the rule that the sub-opcode selects (R126, R134). -/
theorem exec_decodeCb (op2 : Byte) (s : State) : exec (decodeCb op2) s = answer (cbRule op2) s := by
  unfold decodeCb cbRule cbOperandOf
  rcases selector2_cases (fieldX op2) with hx | hx | hx | hx <;> rw [hx] <;> cases r8Of (fieldZ op2)
  · exact exec_rotHl _ s
  · exact exec_rotR _ _ s
  · exact exec_bitHl _ s
  · exact exec_bitR _ _ s
  · exact exec_resHl _ s
  · exact exec_resR _ _ s
  · exact exec_setHl _ s
  · exact exec_setR _ _ s

/-! The row that fetches its sub-byte. -/

theorem cbPrefixed_fetchFault {f : Fault} (h : busRead s s.regs.pc = .error f) :
    cbPrefixed s = .error f (s.charge 4) := M.bind_error (fetch8_error h)

/-- A sub-byte in EXTRA_DECODE_ERRORS is raised with the address of the 0xCB byte (R136). -/
theorem cbPrefixed_extra {op2 : Byte} (h : busRead s s.regs.pc = .ok op2) (hextra : op2 ∈ s.extra.subs) :
    cbPrefixed s = .error (.decodeError (s.regs.pc - 1) op2) ((s.charge 4).setPc (s.regs.pc + 1)) := by
  have hpc : s.regs.pc + 1 - 2 = s.regs.pc - 1 := by bv_omega
  rw [← hpc]
  exact (M.bind_ok (fetch8_ok h)).trans (congrFun (if_pos (decide_eq_true hextra)) _)

/-- Every other sub-byte runs the rule it selects. -/
theorem cbPrefixed_runs {op2 : Byte} (h : busRead s s.regs.pc = .ok op2) (hextra : op2 ∉ s.extra.subs) :
    cbPrefixed s = cbRule op2 ((s.charge 4).setPc (s.regs.pc + 1)) := by
  have hdec : ¬ decide (op2 ∈ s.extra.subs) = true := fun hmem => hextra (of_decide_eq_true hmem)
  exact (M.bind_ok (fetch8_ok h)).trans (congrFun (if_neg hdec) _)

theorem answer_next (m : M Unit) (s : State) : ∃ t, answer m s = .next t := by
  obtain ⟨t, -, h⟩ | ⟨f, t, -, h⟩ := answer_cases m s <;> exact ⟨_, h⟩

/-- Settles O58, by what the fetch of the sub-byte answers; that the row is the rule's is `exec_decodeCb`. -/
theorem cbPrefixRunsTheRowItSelects : Obligations.CbPrefixRunsTheRowItSelects := by
  intro s
  refine ⟨fun f hf => answer_error (cbPrefixed_fetchFault hf), fun op2 h =>
    ⟨fun hextra => answer_error (cbPrefixed_extra h hextra), fun hextra => ?_⟩⟩
  obtain ⟨t, ht⟩ := answer_next (cbRule op2) ((s.charge 4).setPc (s.regs.pc + 1))
  refine ⟨decodeCb op2, t, decode_of_ok (t := [op2]) (Nat.le_refl 1) rfl, ?_, (exec_decodeCb op2 _).trans ht⟩
  show answer cbPrefixed s = _
  rw [answer, cbPrefixed_runs h hextra]
  exact ht

end Sys2Proof.Machine
end

section
/-! PROOFS. The cycles of the opcode maps (30_encoding.md R133, R134; 70_reset_and_hazards.md R520, R521; 20_memory.md R81). -/

namespace Sys2Proof.Machine

open Sys2Proof.Spec

variable {α β : Type} {s t : State} {n k : Nat}

/-! What a completed operation charges. -/

/-- `m` run from `s` charges `n` cycles, if it completes. -/
def Charges (m : M α) (s : State) (n : Nat) : Prop := ∀ x t, m s = .ok x t → t.cyc = s.cyc + n

theorem Charges.of_ok {m : M α} {x : α} (e : m s = .ok x t) (h : t.cyc = s.cyc + n) : Charges m s n := by
  rintro y u hu
  rw [e] at hu
  cases hu
  exact h

theorem Charges.of_error {m : M α} {f : Fault} (e : m s = .error f t) : Charges m s n := by
  rintro y u hu
  rw [e] at hu
  cases hu

theorem Charges.pure (x : α) (s : State) : Charges (Pure.pure x : M α) s 0 := .of_ok rfl rfl

theorem Charges.update {g : State → State} (h : (g s).cyc = s.cyc) : Charges (Machine.update g) s 0 := .of_ok rfl h

theorem Charges.bind {m : M α} {f : α → M β} (hm : Charges m s k) (hf : ∀ x t, m s = .ok x t → Charges (f x) t n) :
    Charges (m >>= f) s (k + n) := by
  intro y u h
  obtain ⟨x, t, hx, hy⟩ := M.ok_of_bind h
  rw [hf x t hx y u hy, hm x t hx, Nat.add_assoc]

theorem Charges.bind_view {g : State → α} {f : α → M β} (h : Charges (f (g s)) s n) : Charges (view g >>= f) s n := h

theorem Charges.bind_tick {f : Unit → M β} (h : Charges (f ()) (s.charge 4) n) : Charges (tick >>= f) s (4 + n) :=
  .bind (.of_ok tick_run rfl) fun _ _ e => by cases e; exact h

theorem Charges.bind_update {g : State → State} {f : Unit → M β} (hg : (g s).cyc = s.cyc) (h : Charges (f ()) (g s) n) :
    Charges (Machine.update g >>= f) s n := by
  rw [← Nat.zero_add n]
  exact .bind (.update hg) fun _ _ e => by cases e; exact h

theorem charges_memRead (a : Word) (s : State) : Charges (memRead a) s 4 := by
  obtain ⟨v, -, e⟩ | ⟨f, -, e⟩ := memRead_cases a s
  · exact .of_ok e rfl
  · exact .of_error e

theorem charges_memStore (a : Word) (v : Byte) (s : State) : Charges (memStore a v) s 4 := by
  obtain ⟨t, hb, e⟩ | ⟨f, -, e⟩ := memStore_cases a v s
  · obtain ⟨-, -, -, hcyc, -, -⟩ := busStore_keeps hb
    exact .of_ok e hcyc
  · exact .of_error e

/-- A copied byte costs a read and a write (R81). -/
theorem charges_oamDmaFrom (page : Byte) (n i : Nat) (s : State) : Charges (oamDmaFrom page n i) s (8 * n) := by
  induction n generalizing i s with
  | zero => exact .pure () s
  | succ n ih =>
    rw [show 8 * (n + 1) = 4 + (4 + 8 * n) by omega]
    exact .bind (charges_memRead _ s) fun v t _ => .bind (charges_memStore _ v t) fun _ u _ => ih (i + 1) u

/-- What MemWrite costs by the addresses it may start an OAM-DMA at: 4 cycles, and 1280 for the copy (R71, R81). -/
theorem charges_memWrite (a : Word) (v : Byte) (s : State) : Charges (memWrite a v) s (4 + 1280 * [a].count 0xFF46) := by
  by_cases ha : a = 0xFF46
  · subst ha
    refine .bind_tick ?_
    by_cases hp : v.toNat < 0x80 ∨ 0xDF < v.toNat
    · exact .of_error (oamDma_badPage hp)
    · rw [oamDma_goodPage (by omega)]
      exact charges_oamDmaFrom v 160 0 _
  · rw [List.count_singleton, memWrite_store ha, if_neg (by simpa using ha)]
    exact charges_memStore a v s


theorem Charges.cast {m : M α} (h : Charges m s k) (e : k = n) : Charges m s n := e ▸ h

/-! The shared operations that are more than one access. -/

/-- Two stores start as many copies as each on its own. -/
theorem count_pair (a b x : Word) : [a, b].count x = [a].count x + [b].count x := List.count_append (l₁ := [a])

theorem charges_ldRegMem (dst : R8) (addr : State → Word) (s : State) : Charges (ldRegMem dst addr) s 4 :=
  .cast (.bind_view (.bind (charges_memRead (addr s) s) fun v t _ => .update (t.setReg_cyc dst v))) rfl

theorem charges_ldMemReg (addr : State → Word) (src : R8) (s : State) :
    Charges (ldMemReg addr src) s (4 + 1280 * [addr s].count 0xFF46) :=
  .bind_view (.bind_view (charges_memWrite (addr s) (s.reg src) s))

theorem charges_ldMemSp (nn : Word) (s : State) : Charges (ldMemSp nn) s (8 + 1280 * [nn, nn + 1].count 0xFF46) := by
  have hstores : Charges (ldMemSp nn) s (4 + 1280 * [nn].count 0xFF46 + (4 + 1280 * [nn + 1].count 0xFF46)) :=
    .bind_view <| .bind (charges_memWrite nn _ s) fun _ t _ => .bind_view (charges_memWrite (nn + 1) _ t)
  exact hstores.cast (by rw [count_pair]; omega)

theorem charges_jpAbs (nn : Word) (s : State) : Charges (jpAbs nn) s 4 := .cast (.bind_tick (.update rfl)) rfl

theorem charges_jrRel (u : Byte) (s : State) : Charges (jrRel u) s 4 := .cast (.bind_tick (.update rfl)) rfl

theorem charges_pop16 (s : State) : Charges pop16 s 8 :=
  .cast (.bind_view <| .bind (charges_memRead _ s) fun _ t _ => .bind_update (t.setSp_cyc _) <|
    .bind_view <| .bind (charges_memRead _ _) fun _ u _ => .bind_update (u.setSp_cyc _) (.pure _ _)) rfl

theorem charges_push16 (v : Word) (s : State) :
    Charges (push16 v) s (8 + 1280 * [s.regs.sp - 1, s.regs.sp - 2].count 0xFF46) := by
  have hpush : Charges (push16 v) s
      (4 + 1280 * [s.regs.sp - 1].count 0xFF46 + (4 + 1280 * [s.regs.sp - 2].count 0xFF46)) := by
    unfold push16
    refine .bind_update (s.setSp_cyc _) <| .bind_view <| .bind (charges_memWrite _ _ _) fun _ u e => ?_
    have hsp : u.regs.sp - 1 = s.regs.sp - 2 := by
      rw [(memWrite_regs _ _ _).ok e]
      show s.regs.sp - 1 - 1 = _
      bv_omega
    rw [← hsp]
    exact .bind_update (u.setSp_cyc _) (.bind_view (charges_memWrite _ _ _))
  exact hpush.cast (by rw [count_pair]; omega)

theorem charges_pushPair (p : Rp2) (s : State) :
    Charges (pushPair p) s (12 + 1280 * [s.regs.sp - 1, s.regs.sp - 2].count 0xFF46) :=
  .cast (.bind_tick (.bind_view (charges_push16 (s.rp2 p) (s.charge 4)))) (Nat.add_assoc 4 8 _).symm

theorem charges_retPop (s : State) : Charges retPop s 12 :=
  .cast (.bind (charges_pop16 s) fun _ _ _ => .bind_tick (.update rfl)) rfl

theorem charges_callAbs (nn : Word) (s : State) :
    Charges (callAbs nn) s (12 + 1280 * [s.regs.sp - 1, s.regs.sp - 2].count 0xFF46) := by
  have hcall : Charges (callAbs nn) s (4 + (8 + 1280 * [s.regs.sp - 1, s.regs.sp - 2].count 0xFF46 + 0)) :=
    .bind_tick <| .bind_view <| .bind (charges_push16 s.regs.pc (s.charge 4)) fun _ _ _ => .update rfl
  exact hcall.cast (by omega)

/-- A condition chooses between a cost and none. -/
theorem charges_ifCond (cc : Cond) {m : M Unit} (h : Charges m s n) :
    Charges (ifCond cc m) s (if s.cond cc then n else 0) := by
  refine .bind_view ?_
  split
  · exact h
  · exact .pure () s

theorem charges_retIf (cc : Cond) (s : State) : Charges (retIf cc) s (if s.cond cc then 16 else 4) := by
  refine .cast (.bind_tick (charges_ifCond cc (charges_retPop (s.charge 4)))) ?_
  show (4 + if s.cond cc then 12 else 0) = _
  split <;> rfl

theorem charges_cbPut_hl (v : Byte) (s : State) : Charges (cbPut .hl v) s (4 + 1280 * [s.hl].count 0xFF46) :=
  .bind_view (charges_memWrite s.hl v s)

/-- The byte at HL is read, and a byte is written back. -/
theorem charges_modifyHl {m : M Byte} {f : Byte → M Unit} (hm : Charges m s 4) (hl : ∀ v t, m s = .ok v t → t.hl = s.hl)
    (hf : ∀ v t, Charges (f v) t (4 + 1280 * [t.hl].count 0xFF46)) :
    Charges (m >>= f) s (8 + 1280 * [s.hl].count 0xFF46) := by
  refine .cast (.bind hm fun v t e => ?_) (Nat.add_assoc 4 4 _).symm
  rw [← hl v t e]
  exact hf v t

theorem charges_memModifyHl {f : Byte → M Unit} (hf : ∀ v t, Charges (f v) t (4 + 1280 * [t.hl].count 0xFF46)) (s : State) :
    Charges (do f (← memRead (← view State.hl))) s (8 + 1280 * [s.hl].count 0xFF46) :=
  .bind_view (charges_modifyHl (charges_memRead s.hl s) (fun _ _ => memRead_hl) hf)

theorem charges_cbModifyHl {f : Byte → M Unit} (hf : ∀ v t, Charges (f v) t (4 + 1280 * [t.hl].count 0xFF46)) (s : State) :
    Charges (cbGet .hl >>= f) s (8 + 1280 * [s.hl].count 0xFF46) :=
  charges_modifyHl (.bind_view (charges_memRead s.hl s)) (fun _ _ => cbGet_hl) hf

theorem charges_incMem (s : State) : Charges incMem s (8 + 1280 * [s.hl].count 0xFF46) := by
  refine charges_memModifyHl (fun v t => ?_) s
  exact .cast (.bind_view (.bind (charges_memWrite t.hl (inc8 v) t) fun _ _ _ => .update rfl)) rfl

theorem charges_decMem (s : State) : Charges decMem s (8 + 1280 * [s.hl].count 0xFF46) := by
  refine charges_memModifyHl (fun v t => ?_) s
  exact .cast (.bind_view (.bind (charges_memWrite t.hl (dec8 v) t) fun _ _ _ => .update rfl)) rfl

theorem charges_cbRot_hl (op : RotOp) (s : State) : Charges (cbRot op .hl) s (8 + 1280 * [s.hl].count 0xFF46) := by
  refine charges_cbModifyHl (fun v t => ?_) s
  exact .cast (.bind_view (.bind (charges_cbPut_hl _ t) fun _ _ _ => .update rfl)) rfl

theorem charges_cbRes_hl (b : BitVec 3) (s : State) : Charges (cbRes b .hl) s (8 + 1280 * [s.hl].count 0xFF46) :=
  charges_cbModifyHl (fun _ t => charges_cbPut_hl _ t) s

theorem charges_cbSet_hl (b : BitVec 3) (s : State) : Charges (cbSet b .hl) s (8 + 1280 * [s.hl].count 0xFF46) :=
  charges_cbModifyHl (fun _ t => charges_cbPut_hl _ t) s

/-! The cost of each shared operation. -/

/-- An operation without a condition always takes its cost. -/
def always : State → Bool := fun _ => true

/-- An operation that stores nothing. -/
def nowhere : State → List Word := fun _ => []

/-- The shared operations with what they charge after the fetch: the condition that they test, their cost where it holds and
where it does not (R520), and where they store. -/
inductive RowCost : M Unit → (State → Bool) → Nat × Nat → (State → List Word) → Prop where
  | nop : RowCost (pure ()) always (0, 0) nowhere
  | stop (u : Byte) : RowCost (stopOp u) always (0, 0) nowhere
  | unused (op : Byte) : RowCost (unusedOp op) always (0, 0) nowhere
  | halt : RowCost haltOp always (0, 0) nowhere
  | setIme (b : Bool) : RowCost (setImeOp b) always (0, 0) nowhere
  | reti : RowCost returnFromInterrupt always (12, 12) nowhere
  | ldRegReg (dst src : R8) : RowCost (ldRegReg dst src) always (0, 0) nowhere
  | ldRegImm (dst : R8) (n : Byte) : RowCost (ldRegImm dst n) always (0, 0) nowhere
  | ldRegMem (dst : R8) (addr : State → Word) : RowCost (ldRegMem dst addr) always (4, 4) nowhere
  | ldAHlStep (delta : Word) : RowCost (ldAHlStep delta) always (4, 4) nowhere
  | ldPairImm (p : Rp) (nn : Word) : RowCost (ldPairImm p nn) always (0, 0) nowhere
  | ldSpHl : RowCost ldSpHl always (4, 4) nowhere
  | ldHlSpE (u : Byte) : RowCost (ldHlSpE u) always (4, 4) nowhere
  | popPair (p : Rp2) : RowCost (popPair p) always (8, 8) nowhere
  | aluReg (op : AluOp) (r : R8) : RowCost (aluReg op r) always (0, 0) nowhere
  | aluMem (op : AluOp) : RowCost (aluMem op) always (4, 4) nowhere
  | aluImm (op : AluOp) (n : Byte) : RowCost (aluImm op n) always (0, 0) nowhere
  | incReg (r : R8) : RowCost (incReg r) always (0, 0) nowhere
  | decReg (r : R8) : RowCost (decReg r) always (0, 0) nowhere
  | stepPair (p : Rp) (delta : Word) : RowCost (stepPair p delta) always (4, 4) nowhere
  | addHlPair (p : Rp) : RowCost (addHlPair p) always (4, 4) nowhere
  | addSpImm (u : Byte) : RowCost (addSpImm u) always (8, 8) nowhere
  | daaA : RowCost daaA always (0, 0) nowhere
  | cplA : RowCost cplA always (0, 0) nowhere
  | flagOp (g : Flags → Flags) : RowCost (flagOp g) always (0, 0) nowhere
  | rotAcc (f : Byte → Bool → Byte × Bool) : RowCost (rotAcc f) always (0, 0) nowhere
  | jpAbs (nn : Word) : RowCost (jpAbs nn) always (4, 4) nowhere
  | jpIf (cc : Cond) (nn : Word) : RowCost (ifCond cc (jpAbs nn)) (·.cond cc) (4, 0) nowhere
  | jpHl : RowCost jpHl always (0, 0) nowhere
  | jrRel (u : Byte) : RowCost (jrRel u) always (4, 4) nowhere
  | jrIf (cc : Cond) (u : Byte) : RowCost (ifCond cc (jrRel u)) (·.cond cc) (4, 0) nowhere
  | retPop : RowCost retPop always (12, 12) nowhere
  | retIf (cc : Cond) : RowCost (retIf cc) (·.cond cc) (16, 4) nowhere
  | cbRotReg (op : RotOp) (r : R8) : RowCost (cbRot op (.reg r)) always (0, 0) nowhere
  | cbBitReg (b : BitVec 3) (r : R8) : RowCost (cbBit b (.reg r)) always (0, 0) nowhere
  | cbBitHl (b : BitVec 3) : RowCost (cbBit b .hl) always (4, 4) nowhere
  | cbResReg (b : BitVec 3) (r : R8) : RowCost (cbRes b (.reg r)) always (0, 0) nowhere
  | cbSetReg (b : BitVec 3) (r : R8) : RowCost (cbSet b (.reg r)) always (0, 0) nowhere
  | ldMemReg (addr : State → Word) (src : R8) : RowCost (ldMemReg addr src) always (4, 4) fun s => [addr s]
  | ldHlImm (n : Byte) : RowCost (ldHlImm n) always (4, 4) fun s => [s.hl]
  | ldHlStepA (delta : Word) : RowCost (ldHlStepA delta) always (4, 4) fun s => [s.hl]
  | ldMemSp (nn : Word) : RowCost (ldMemSp nn) always (8, 8) fun _ => [nn, nn + 1]
  | pushPair (p : Rp2) : RowCost (pushPair p) always (12, 12) fun s => [s.regs.sp - 1, s.regs.sp - 2]
  | incMem : RowCost incMem always (8, 8) fun s => [s.hl]
  | decMem : RowCost decMem always (8, 8) fun s => [s.hl]
  | callAbs (nn : Word) : RowCost (callAbs nn) always (12, 12) fun s => [s.regs.sp - 1, s.regs.sp - 2]
  | callIf (cc : Cond) (nn : Word) : RowCost (ifCond cc (callAbs nn)) (·.cond cc) (12, 0) fun s =>
      if s.cond cc then [s.regs.sp - 1, s.regs.sp - 2] else []
  | cbRotHl (op : RotOp) : RowCost (cbRot op .hl) always (8, 8) fun s => [s.hl]
  | cbResHl (b : BitVec 3) : RowCost (cbRes b .hl) always (8, 8) fun s => [s.hl]
  | cbSetHl (b : BitVec 3) : RowCost (cbSet b .hl) always (8, 8) fun s => [s.hl]

theorem aluApply_cyc (op : AluOp) (v : Byte) (s : State) : (aluApply op v s).cyc = s.cyc := by
  cases op <;> rfl

/-- The list of costs is right: a completed operation charges what it says, and 1280 for each OAM-DMA. -/
theorem RowCost.charges {m : M Unit} {cond : State → Bool} {c : Nat × Nat} {addrs : State → List Word}
    (h : RowCost m cond c addrs) (s : State) :
    Charges m s ((if cond s then c.1 else c.2) + 1280 * (addrs s).count 0xFF46) := by
  cases h
  case nop => exact .pure () s
  case stop u =>
    unfold stopOp
    split
    · exact .pure () s
    · exact .of_error rfl
  case unused => exact .of_error rfl
  case halt => exact .update (by split <;> rfl)
  case setIme b => exact .update (s.setIme_cyc b)
  case reti => exact .cast (.bind (charges_pop16 s) fun _ t _ => .bind_tick (.update rfl)) rfl
  case ldRegReg dst src => exact .update (s.setReg_cyc dst _)
  case ldRegImm dst n => exact .update (s.setReg_cyc dst n)
  case ldRegMem dst addr => exact charges_ldRegMem dst addr s
  case ldAHlStep => exact .cast (.bind (charges_ldRegMem .a State.hl s) fun _ t _ => .update (t.setHl_cyc _)) rfl
  case ldPairImm p nn => exact .update (s.setRp_cyc p nn)
  case ldSpHl => exact .cast (.bind_tick (.update rfl)) rfl
  case ldHlSpE => exact .cast (.bind_tick (.update rfl)) rfl
  case popPair p => exact .cast (.bind (charges_pop16 s) fun v t _ => .update (t.setRp2_cyc p v)) rfl
  case aluReg op r => exact .update (aluApply_cyc op _ s)
  case aluMem op =>
    exact .cast (.bind_view (.bind (charges_memRead s.hl s) fun v t _ => .update (aluApply_cyc op v t))) rfl
  case aluImm op n => exact .update (aluApply_cyc op n s)
  case incReg r => exact .update (s.setReg_cyc r _)
  case decReg r => exact .update (s.setReg_cyc r _)
  case stepPair p delta => exact .cast (.bind_tick (.update ((s.charge 4).setRp_cyc p _))) rfl
  case addHlPair => exact .cast (.bind_tick (.update rfl)) rfl
  case addSpImm => exact .cast (.bind_tick (.bind_tick (.update rfl))) rfl
  case daaA | cplA | flagOp | rotAcc => exact .update rfl
  case jpAbs nn => exact charges_jpAbs nn s
  case jpIf cc nn => exact charges_ifCond cc (charges_jpAbs nn s)
  case jpHl => exact .update rfl
  case jrRel u => exact charges_jrRel u s
  case jrIf cc u => exact charges_ifCond cc (charges_jrRel u s)
  case retPop => exact charges_retPop s
  case retIf cc => exact charges_retIf cc s
  case cbRotReg op r => exact .cast (.bind_view (.bind_view (.bind_update (s.setReg_cyc r _) (.update rfl)))) rfl
  case cbBitReg => exact .bind_view (.update rfl)
  case cbBitHl => exact .cast (.bind (.bind_view (charges_memRead s.hl s)) fun _ _ _ => .update rfl) rfl
  case cbResReg b r => exact .bind_view (.update (s.setReg_cyc r _))
  case cbSetReg b r => exact .bind_view (.update (s.setReg_cyc r _))
  case ldMemReg addr src => exact charges_ldMemReg addr src s
  case ldHlImm n => exact .bind_view (charges_memWrite s.hl n s)
  case ldHlStepA => exact .cast (.bind (charges_ldMemReg State.hl .a s) fun _ _ _ => .update rfl) rfl
  case ldMemSp nn => exact charges_ldMemSp nn s
  case pushPair p => exact charges_pushPair p s
  case incMem => exact charges_incMem s
  case decMem => exact charges_decMem s
  case callAbs nn => exact charges_callAbs nn s
  case callIf cc nn =>
    refine (charges_ifCond cc (charges_callAbs nn s)).cast ?_
    cases hcc : s.cond cc <;> simp [hcc]
  case cbRotHl op => exact charges_cbRot_hl op s
  case cbResHl b => exact charges_cbRes_hl b s
  case cbSetHl b => exact charges_cbSet_hl b s

/-! The opcode table. -/

/-- What the opcode table says of a row: its cycles are the fetch's and those its operation charges (R133, R134), and the
operation tests the row's condition and stores where the row does. -/
structure RowCosts (i : Instr) (m : M Unit) (cond : State → Bool) (c : Nat × Nat) (addrs : State → List Word) : Prop where
  runs : ∀ s, exec i s = answer m s
  cost : RowCost m cond c addrs
  taken : ∀ s, taken i s = cond s
  stores : ∀ s, storesTo i s = addrs s
  table : tableCycles i = (4 * (encode i).length + c.1, 4 * (encode i).length + c.2)

/-- Every row but the one that fetches its sub-byte itself, each with the shared operation that `exec` runs for it. -/
theorem exists_rowCosts (i : Instr) (hi : i ≠ .cbPrefix) : ∃ m cond c addrs, RowCosts i m cond c addrs := by
  cases i
  case cbPrefix => exact absurd rfl hi
  case ldhAtNA n => exact ⟨_, _, _, _, fun _ => rfl, .ldMemReg _ _, fun _ => rfl, fun _ => by rw [highPage_eq]; rfl, rfl⟩
  case ldAtCA => exact ⟨_, _, _, _, fun _ => rfl, .ldMemReg _ _, fun _ => rfl, fun _ => by rw [highPage_eq]; rfl, rfl⟩
  all_goals
    refine ⟨_, _, _, _, fun _ => by dsimp only [exec]; rfl, by with_reducible constructor, ?_, ?_, ?_⟩
    · exact fun _ => rfl
    · exact fun _ => rfl
    · rfl

/-- An answer that holds no fault is the completed operation's. -/
theorem ok_of_answer {m : M Unit} (h : answer m s = .next t) (hfault : t.fault = none) : m s = .ok () t := by
  rcases answer_cases m s with ⟨u, hm, e⟩ | ⟨f, u, -, e⟩ <;> rw [e] at h <;> cases h
  · exact hm
  · cases hfault

/-- Settles O18: the row's operation completed, so it charged the row's cycles beyond its fetch. -/
theorem cycleCounts : Obligations.CycleCounts := by
  intro i s t hi h _ hfault
  obtain ⟨m, cond, c, addrs, hruns, hcost, htaken, hstores, htable⟩ := exists_rowCosts i hi
  rw [hruns] at h
  rw [htaken, hstores, htable, hcost.charges s () t (ok_of_answer h hfault)]
  split <;> omega

end Sys2Proof.Machine
end

section
/-! PROOFS. What a completed store leaves for the next access: the memories canonical, the cartridge's banks as they were
(20_memory.md R71, R74, R81, R92). -/

namespace Sys2Proof.Machine

open Sys2Proof.Spec

variable {s t : State} {a b : Word} {v w : Byte}

/-- The memories stand outside the CPU. -/
theorem State.MemoryWf.withCpu (h : s.MemoryWf) (r : Regs) (ime halted : Bool) (cyc : Nat) (fault : Option Fault) :
    (s.withCpu r ime halted cyc fault).MemoryWf :=
  ⟨h.wram, h.hram, h.vram, h.oam, h.cram, h.rom, h.fb, h.bgpri⟩

theorem State.MemoryWf.charge (h : s.MemoryWf) (n : Nat) : (s.charge n).MemoryWf :=
  h.withCpu s.regs s.ime s.halted (s.cyc + n) s.fault

theorem State.MemoryWf.setSp (h : s.MemoryWf) (x : Word) : (s.setSp x).MemoryWf :=
  h.withCpu { s.regs with sp := x } s.ime s.halted s.cyc s.fault

theorem State.MemoryWf.withOam (h : s.MemoryWf) {m : Memory} (hm : Memory.wf 160 m) : (s.withOam m).MemoryWf :=
  ⟨h.wram, h.hram, h.vram, hm, h.cram, h.rom, h.fb, h.bgpri⟩

theorem storeEffect_memoryWf (h : StoreEffect s a v t) (hw : s.MemoryWf) : t.MemoryWf := by
  by_cases ha : a = 0xFF46
  · obtain ⟨ht, hclosed, hopen⟩ := h.dma ha
    have hoam : Memory.wf 160 t.ppu.oam := by
      cases ho : s.ppu.oamOpen
      · rw [hclosed ho]; exact hw.oam
      · exact (hopen ho).1
    rw [ht]
    exact (hw.withOam hoam).charge 1284
  · obtain ⟨u, hu, rfl⟩ := h.byte ha
    exact (busStore_wf hu hw).charge 4

/-- The cartridges differ in the bytes of the external RAM only: every bound on an access is the same (R95). -/
def SameBanks (s t : State) : Prop := ∃ m, t.cart = { s.cart with cram := m }

theorem SameBanks.of_eq (h : t.cart = s.cart) : SameBanks s t := ⟨s.cart.cram, h⟩

theorem readOk_of_sameBanks (h : SameBanks s t) (hr : ReadOk s a) : ReadOk t a := by
  obtain ⟨m, hm⟩ := h
  rw [ReadOk, hm]
  exact hr

theorem writeOk_of_sameBanks (h : SameBanks s t) (hwr : WriteOk s a v) : WriteOk t a v := by
  obtain ⟨hext, hdma⟩ := hwr
  refine ⟨?_, fun ha => ?_⟩
  · obtain ⟨m, hm⟩ := h
    rw [hm]
    exact hext
  · obtain ⟨hlo, hhi, hread⟩ := hdma ha
    exact ⟨hlo, hhi, fun i hi => readOk_of_sameBanks h (hread i hi)⟩

/-- A bus write from 0x8000 on reaches no latch of the MBC1. -/
theorem busStore_sameBanks (ha : 0x8000 ≤ a.toNat) (h : busStore s a v = .ok t) : SameBanks s t := by
  revert h
  refine busStore_cases (P := fun x => x = .ok t → _) ?cart ?vram ?wram ?oam ?joyp ?sb ?timer ?ifr ?ppu ?hram ?ie ?unmapped
  case cart =>
    intro hcart h
    obtain ⟨c, hc, rfl⟩ := busCartWrite_ok h
    rw [cartWrite_extRam (by unfold Within; omega)] at hc
    split_ifs at hc <;> cases hc <;> exact ⟨_, rfl⟩
  case ppu =>
    rintro - ⟨⟩
    obtain ⟨f, p, hp⟩ := ppuRegWrite_eq a v s
    exact .of_eq (by rw [hp])
  case unmapped => rintro ⟨⟩; exact .of_eq rfl
  case vram | wram | oam | joyp | sb | timer | ifr | hram | ie => rintro - ⟨⟩; exact .of_eq rfl

theorem storeEffect_sameBanks (h : StoreEffect s a v t) (ha : 0x8000 ≤ a.toNat) : SameBanks s t := by
  by_cases hdma : a = 0xFF46
  · exact .of_eq (by rw [(h.dma hdma).1])
  · obtain ⟨u, hu, rfl⟩ := h.byte hdma
    obtain ⟨m, hm⟩ := busStore_sameBanks ha hu
    exact ⟨m, hm⟩

theorem writeOk_outside (hext : ¬ Within 0xA000 0xBFFF a) (hdma : a ≠ 0xFF46) : WriteOk s a v :=
  ⟨fun hin => absurd hin hext, fun e => absurd e hdma⟩

/-- A store to a neighbouring address leaves an allowed write allowed: beside a latch, no write can fault. -/
theorem writeOk_after_store (h : StoreEffect s a v t) (hab : b = a + 1 ∨ b = a - 1) (hb : WriteOk s b w) :
    WriteOk t b w := by
  by_cases ha : 0x8000 ≤ a.toNat
  · exact writeOk_of_sameBanks (storeEffect_sameBanks h ha) hb
  · exact writeOk_outside (by unfold Within; bv_omega) (by bv_omega)

/-- Of two writes to neighbouring addresses, both allowed beforehand, the first completes and leaves the second allowed. -/
theorem memWrite_completes_beside (hw : s.MemoryWf) (hab : b = a + 1 ∨ b = a - 1) (ha : WriteOk s a v)
    (hb : WriteOk s b w) :
    ∃ u, memWrite a v s = .ok () u ∧ StoreEffect s a v u ∧ u.MemoryWf ∧ WriteOk u b w := by
  obtain ⟨u, hu, hstore⟩ := memWrite_completes hw ha
  exact ⟨u, hu, hstore, storeEffect_memoryWf hstore hw, writeOk_after_store hstore hab hb⟩

end Sys2Proof.Machine
end

section
/-! PROOFS. Loads and stores of one register or one byte (40_loads.md R201 to R223). -/

namespace Sys2Proof.Machine

open Sys2Proof.Spec

variable {s t u : State} {f : Fault} {i : Instr}

/-! A family's meaning by its operand selectors. -/

theorem exec_ldRR (dst src : R8) (s : State) : exec (Row.ldRR dst src) s = answer (ldRegReg dst src) s := by
  cases dst <;> cases src <;> rfl

theorem exec_ldRN (r : R8) (n : Byte) (s : State) : exec (Row.ldRN r n) s = answer (ldRegImm r n) s := by
  cases r <;> rfl

theorem exec_ldRpNn (p : Rp) (nn : Word) (s : State) : exec (Row.ldRpNn p nn) s = answer (ldPairImm p nn) s := by
  cases p <;> rfl

theorem exec_ldRHl (r : R8) (s : State) : exec (Row.ldRHl r) s = answer (ldRegMem r State.hl) s := by
  cases r <;> rfl

theorem exec_ldHlR (r : R8) (s : State) : exec (Row.ldHlR r) s = answer (ldMemReg State.hl r) s := by
  cases r <;> rfl

/-! Registers and immediates (R201, R202, R220, R222, R223). -/

/-- Settles O40: each meaning is one update; LD HL,SP+e takes its sum and flags from `addSpE_spec`. -/
theorem registerLoads : Obligations.RegisterLoads := by
  refine ⟨exec_ldRR, exec_ldRN, exec_ldRpNn, fun _ => rfl, fun e s => ?_⟩
  obtain ⟨hsum, hz, hn, hh, hc⟩ := addSpE_spec s.regs.sp e
  refine ⟨(addSpE s.regs.sp e).2, ?_, hz, hn, hh, hc⟩
  rw [← hsum]
  rfl

/-! Loads from memory (R203, R206, R207, R210, R212, R214, R218, R219). -/

theorem ldRegMem_ok {addr : State → Word} {v : Byte} (r : R8) (h : busRead s (addr s) = .ok v) :
    ldRegMem r addr s = .ok () ((s.charge 4).setReg r v) := by
  rw [ldRegMem, view_bind, M.bind_ok (memRead_ok h), update_run]

theorem ldRegMem_error {addr : State → Word} (r : R8) (h : busRead s (addr s) = .error f) :
    ldRegMem r addr s = .error f (s.charge 4) := by
  rw [ldRegMem, view_bind, M.bind_error (memRead_error h)]

theorem loads_ldRegMem {r : R8} {addr : State → Word} (h : ∀ s, exec i s = answer (ldRegMem r addr) s) :
    Loads i addr fun v s => s.setReg r v where
  completes s _ hv := (h s).trans (answer_ok (ldRegMem_ok r hv))
  faults s _ hf := (h s).trans (answer_error (ldRegMem_error r hf))

theorem loads_ldAHlStep {delta : Word} (h : ∀ s, exec i s = answer (ldAHlStep delta) s) :
    Loads i State.hl fun v s => (s.setReg .a v).setHl (s.hl + delta) where
  completes s _ hv := (h s).trans (answer_ok (M.bind_ok (ldRegMem_ok .a hv)))
  faults s _ hf := (h s).trans (answer_error (M.bind_error (ldRegMem_error .a hf)))

/-- The page 0xFF00 to 0xFFFF has no cartridge window. -/
theorem busRead_highPage (s : State) (n : Byte) : ∃ v, busRead s (highPage n) = .ok v := by
  have hpage : 0xFF00 ≤ (highPage n).toNat := by
    rw [highPage, word16_toNat]
    exact Nat.le_add_right _ _
  exact busRead_offCart (by omega) (by unfold Within; omega)

/-- Settles O41: every row is a read at its address, and HL+ and HL- step HL after it. -/
theorem memoryLoads : Obligations.MemoryLoads := by
  simp only [Obligations.MemoryLoads, ← highPage_eq, sub_eq_add_neg]
  exact ⟨fun r => loads_ldRegMem (exec_ldRHl r), loads_ldRegMem fun _ => rfl, loads_ldRegMem fun _ => rfl,
    fun _ => loads_ldRegMem fun _ => rfl, fun _ => loads_ldRegMem fun _ => rfl, loads_ldRegMem fun _ => rfl,
    loads_ldAHlStep fun _ => rfl, loads_ldAHlStep fun _ => rfl, busRead_highPage⟩

/-! Byte stores (R204, R205, R208, R209, R211, R213, R215 to R217). -/

/-- A row whose meaning is one MemWrite stores what it writes. -/
theorem stores_memWrite {addr : State → Word} {val : State → Byte} {m : M Unit} (h : ∀ s, exec i s = answer m s)
    (hm : ∀ s, m s = memWrite (addr s) (val s) s) : Stores i addr val id where
  completes s hw hok := by
    obtain ⟨t, ht, hstore⟩ := memWrite_completes hw hok
    exact ⟨t, hstore, (h s).trans (answer_ok ((hm s).trans ht))⟩
  faults s _ _ hf := (h s).trans (answer_error ((hm s).trans hf))

theorem stores_ldMemReg {r : R8} {addr : State → Word} (h : ∀ s, exec i s = answer (ldMemReg addr r) s) :
    Stores i addr (fun s => s.reg r) id := stores_memWrite h fun _ => rfl

theorem stores_ldMemA {addr : State → Word} (h : ∀ s, exec i s = answer (ldMemReg addr .a) s) :
    Stores i addr (fun s => s.regs.a) id := stores_ldMemReg h

theorem stores_ldHlStepA {delta : Word} (h : ∀ s, exec i s = answer (ldHlStepA delta) s) :
    Stores i State.hl (fun s => s.regs.a) fun t => t.setHl (t.hl + delta) where
  completes s hw hok := by
    obtain ⟨t, ht, hstore⟩ := memWrite_completes hw hok
    exact ⟨t, hstore, (h s).trans (answer_ok (M.bind_ok (x := ldMemReg State.hl .a) ht))⟩
  faults s _ _ hf := (h s).trans (answer_error (M.bind_error (x := ldMemReg State.hl .a) hf))

/-- Settles O42: every row is one MemWrite at its address, and HL+ and HL- step HL after it. -/
theorem memoryStores : Obligations.MemoryStores := by
  simp only [Obligations.MemoryStores, ← highPage_eq, sub_eq_add_neg]
  exact ⟨fun r => stores_ldMemReg (exec_ldHlR r), fun n => stores_memWrite (m := ldHlImm n) (fun _ => rfl) fun _ => rfl,
    stores_ldMemA fun _ => rfl, stores_ldMemA fun _ => rfl, fun _ => stores_ldMemA fun _ => rfl,
    fun _ => stores_ldMemA fun _ => rfl, stores_ldMemA fun _ => rfl, stores_ldHlStepA fun _ => rfl,
    stores_ldHlStepA fun _ => rfl⟩

/-! LD (nn),SP (R221). -/

theorem loByte_eq_ofNat (x : Word) : loByte x = BitVec.ofNat 8 (x.toNat % 256) :=
  BitVec.eq_of_toNat_eq (by rw [loByte_toNat, BitVec.toNat_ofNat, Nat.mod_mod])

theorem hiByte_eq_ofNat (x : Word) : hiByte x = BitVec.ofNat 8 (x.toNat / 256) :=
  BitVec.eq_of_toNat_eq (by rw [← hiByte_toNat, BitVec.ofNat_toNat, BitVec.setWidth_eq])

theorem ldMemSp_error {nn : Word} (h : memWrite nn (loByte s.regs.sp) s = .error f t) : ldMemSp nn s = .error f t := by
  rw [ldMemSp, view_bind, M.bind_error h]

/-- SP is read again for the high byte, and the first store has left it alone. -/
theorem ldMemSp_of_first {nn : Word} (h : memWrite nn (loByte s.regs.sp) s = .ok () u) :
    ldMemSp nn s = memWrite (nn + 1) (hiByte s.regs.sp) u := by
  rw [← (memWrite_regs _ _ _).ok h]
  exact M.bind_ok h

/-- Settles O43: two neighbouring stores. -/
theorem stackPointerStore : Obligations.StackPointerStore := by
  intro nn s
  rw [← loByte_eq_ofNat, ← hiByte_eq_ofNat]
  refine ⟨fun hw hlo hhi => ?_, fun f t hf => answer_error (ldMemSp_error hf),
    fun u f t hu hf => answer_error ((ldMemSp_of_first hu).trans hf)⟩
  obtain ⟨u, hu, hfirst, huw, hok⟩ := memWrite_completes_beside hw (.inl rfl) hlo hhi
  obtain ⟨t, ht, hsecond⟩ := memWrite_completes huw hok
  exact ⟨u, t, hfirst, hsecond, answer_ok ((ldMemSp_of_first hu).trans ht)⟩

end Sys2Proof.Machine
end

section
/-! PROOFS. The stack (20_memory.md R98; 40_loads.md R224 to R226). -/

namespace Sys2Proof.Machine

open Sys2Proof.Spec

variable {s t u : State} {a b : Word} {v : Byte} {w : Word} {f : Fault}

/-! Push16 and Pop16. -/

theorem sub_two_eq (x : Word) : x - 2 = x - 1 - 1 := by bv_omega

/-- Once the high byte is stored, Push16 is the store of the low byte. -/
theorem push16_of_first (h : memWrite (s.regs.sp - 1) (hiByte w) (s.setSp (s.regs.sp - 1)) = .ok () u) :
    push16 w s = memWrite (s.regs.sp - 2) (loByte w) (u.setSp (s.regs.sp - 2)) := by
  have hsp : u.regs.sp - 1 = s.regs.sp - 2 := by
    rw [(memWrite_regs _ _ _).ok h, sub_two_eq]
    rfl
  rw [push16_run, M.bind_ok h, ← hsp]
  rfl

theorem push16_fault (h : PushFault s w f t) : push16 w s = .error f t := by
  rcases h with hfirst | ⟨u, hu, hsecond⟩
  · rw [push16_run, M.bind_error hfirst]
  · exact (push16_of_first hu).trans hsecond

theorem push16_completes (hw : s.MemoryWf) (hhi : WriteOk s (s.regs.sp - 1) (hiByte w))
    (hlo : WriteOk s (s.regs.sp - 2) (loByte w)) : ∃ t, push16 w s = .ok () t ∧ PushEffect s w t := by
  obtain ⟨u, hu, hfirst, huw, hok⟩ := memWrite_completes_beside (s := s.setSp (s.regs.sp - 1)) (hw.setSp _)
    (.inr (sub_two_eq _)) (writeOk_of_sameBanks (.of_eq rfl) hhi) (writeOk_of_sameBanks (.of_eq rfl) hlo)
  obtain ⟨t, ht, hsecond⟩ := memWrite_completes (s := u.setSp (s.regs.sp - 2)) (huw.setSp _)
    (writeOk_of_sameBanks (.of_eq rfl) hok)
  exact ⟨t, (push16_of_first hu).trans ht, u, hfirst, hsecond⟩

theorem word16_eq_ofNat (hi lo : Byte) : word16 hi lo = BitVec.ofNat 16 (256 * hi.toNat + lo.toNat) := by
  rw [← word16_toNat, BitVec.ofNat_toNat, BitVec.setWidth_eq]

/-! PUSH and POP. -/

theorem exec_push (p : Rp2) (s : State) : exec (Row.push p) s = answer (pushPair p) s := by
  cases p <;> rfl

theorem exec_pop (p : Rp2) (s : State) : exec (Row.pop p) s = answer (popPair p) s := by
  cases p <;> rfl

theorem pushPair_run (p : Rp2) (s : State) : pushPair p s = push16 (s.rp2 p) (s.charge 4) := by
  rw [← s.charge_rp2 4 p]
  rfl

theorem push_pushes (p : Rp2) : Pushes (fun _ => True) (Row.push p) (fun s => s.rp2 p) id where
  completes s _ hw hhi hlo := by
    obtain ⟨t, ht, heffect⟩ := push16_completes (hw.charge 4) (writeOk_of_sameBanks (.of_eq rfl) hhi)
      (writeOk_of_sameBanks (.of_eq rfl) hlo)
    exact ⟨t, heffect, (exec_push p s).trans (answer_ok ((pushPair_run p s).trans ht))⟩
  faults s _ _ _ hf := (exec_push p s).trans (answer_error ((pushPair_run p s).trans (push16_fault hf)))

theorem pop_pops (p : Rp2) : Pops (fun _ => True) (Row.pop p) 0 (fun v s => s.setRp2 p v) where
  completes s lo hi _ hlo hhi := by
    rw [exec_pop, ← word16_eq_ofNat, Nat.zero_add]
    exact answer_ok (M.bind_ok (pop16_ok hlo hhi))
  faultsLow s _ _ hf := by
    rw [exec_pop, Nat.zero_add]
    exact answer_error (M.bind_error (pop16_errorLo hf))
  faultsHigh s _ _ _ hlo hf := by
    rw [exec_pop, Nat.zero_add]
    exact answer_error (M.bind_error (pop16_errorHi hlo hf))

/-- Settles O44: the completed and the faulted Push16 and Pop16 behind the four rows each. -/
theorem pushAndPop : Obligations.PushAndPop := ⟨push_pushes, pop_pops⟩

/-! A pair pushed to RAM and popped (R98, R224 to R226). -/

/-- Work RAM or high RAM: memory that always takes a write and gives it back (R76, R77). -/
def RamAddress (a : Word) : Prop := Within 0xC000 0xDFFF a ∨ Within 0xFF80 0xFFFE a

theorem RamAddress.ne_dma (h : RamAddress a) : a ≠ 0xFF46 := by
  rintro rfl
  revert h
  unfold RamAddress
  decide

theorem RamAddress.writeOk (h : RamAddress a) : WriteOk s a v :=
  writeOk_outside (by unfold RamAddress Within at *; omega) h.ne_dma

/-- A store to RAM touches its own address only. -/
theorem RamAddress.not_touches (h : RamAddress a) (hb : b ≠ a) : ¬ Touches s a v b := by
  unfold RamAddress Within at h
  rintro (⟨-, hself⟩ | ⟨hen, -⟩ | ⟨hlo, -⟩ | ⟨hhi, -⟩ | ⟨hlcdc, -⟩ | ⟨hdma, -⟩)
  · exact hb hself
  · omega
  · omega
  · omega
  · bv_omega
  · bv_omega

/-- A store to RAM costs 4 cycles, is read back and changes no other read. -/
theorem storeEffect_ram (h : StoreEffect s a v t) (ha : RamAddress a) (hw : s.MemoryWf) :
    t.cyc = s.cyc + 4 ∧ busRead t a = .ok v ∧ ∀ b, b ≠ a → busRead t b = busRead s b := by
  refine ⟨?_, ?_, fun b hb => h.frame b (ha.not_touches hb)⟩ <;> obtain ⟨u, hu, rfl⟩ := h.byte ha.ne_dma
  · obtain ⟨-, -, -, hcyc, -, -⟩ := busStore_keeps hu
    rw [State.charge_cyc, hcyc]
  · obtain ⟨-, hread, -⟩ := storedBytesReadBack s u a v hw hu
    exact hread (ha.imp_right .inl)

/-- A word pushed to RAM stands below the old SP, low byte first. -/
theorem pushEffect_ram (h : PushEffect s w t) (hhi : RamAddress (s.regs.sp - 1)) (hlo : RamAddress (s.regs.sp - 2))
    (hw : s.MemoryWf) : t.cyc = s.cyc + 8 ∧ t.fault = s.fault ∧ t.regs.sp = s.regs.sp - 2 ∧
      busRead t (s.regs.sp - 2) = .ok (loByte w) ∧ busRead t (s.regs.sp - 1) = .ok (hiByte w) := by
  obtain ⟨u, hfirst, hsecond⟩ := h
  obtain ⟨hcyc₁, hread₁, -⟩ := storeEffect_ram hfirst hhi (hw.setSp _)
  obtain ⟨hcyc₂, hread₂, hother⟩ := storeEffect_ram hsecond hlo ((storeEffect_memoryWf hfirst (hw.setSp _)).setSp _)
  obtain ⟨-, -, -, hfault₁⟩ := hfirst.cpu
  obtain ⟨hregs, -, -, hfault₂⟩ := hsecond.cpu
  have hne : s.regs.sp - 1 ≠ s.regs.sp - 2 := by bv_omega
  refine ⟨?_, hfault₂.trans hfault₁, by rw [hregs, State.setSp_regs_sp], hread₂, (hother _ hne).trans hread₁⟩
  rw [hcyc₂, State.setSp_cyc, hcyc₁, State.setSp_cyc]

theorem word16_and (h l h' l' : Byte) : word16 h l &&& word16 h' l' = word16 (h &&& h') (l &&& l') :=
  BitVec.and_append

/-- What a pair reads after a write: AF drops F's low nibble (R32, R226). -/
theorem State.setRp2_rp2 (s : State) (q : Rp2) (x : Word) :
    (s.setRp2 q x).rp2 q = if q = .af then x &&& 0xFFF0 else x := by
  cases q
  case bc | de | hl => exact word16_hiByte_loByte x
  case af =>
    have hmask : (0xFFF0 : Word) = word16 (BitVec.allOnes 8) 0xF0 := rfl
    calc word16 (hiByte x) (loByte x &&& 0xF0)
      _ = word16 (hiByte x &&& BitVec.allOnes 8) (loByte x &&& 0xF0) := by rw [BitVec.and_allOnes]
      _ = x &&& 0xFFF0 := by rw [← word16_and, word16_hiByte_loByte, ← hmask]

/-- Settles O45: PUSH leaves the two bytes where POP reads them. -/
theorem pushThenPopRestores : Obligations.PushThenPopRestores := by
  intro p q s hinv hfault hram
  have hhi : RamAddress (s.regs.sp - 1) := hram _ (by simp)
  have hlo : RamAddress (s.regs.sp - 2) := hram _ (by simp)
  obtain ⟨t, hpush, ht⟩ := (push_pushes p).completes s trivial hinv.memory hhi.writeOk hlo.writeOk
  obtain ⟨hcyc, hf, hsp, hreadLo, hreadHi⟩ := pushEffect_ram hpush hhi hlo (hinv.memory.charge 4)
  rw [State.charge_regs] at hsp hreadLo hreadHi
  have hnext : t.regs.sp + 1 = s.regs.sp - 1 := by bv_omega
  have hback : t.regs.sp + 2 = s.regs.sp := by bv_omega
  have hpop := (pop_pops q).completes t _ _ trivial (hsp ▸ hreadLo) (hnext ▸ hreadHi)
  rw [← word16_eq_ofNat, word16_hiByte_loByte] at hpop
  refine ⟨t, _, ht, hpop, hf.trans hfault, State.setRp2_rp2 _ q _, ?_, ?_, ?_⟩
  · rw [State.setRp2_regs_sp, State.setSp_regs_sp, hback]
  · rw [State.setRp2_fault]
    exact hf.trans hfault
  · rw [State.setRp2_cyc, State.setSp_cyc, State.charge_cyc, hcyc, State.charge_cyc]

end Sys2Proof.Machine
end

section
/-! PROOFS. The 8-bit ALU, INC and DEC (41_alu.md R230 to R242). -/

namespace Sys2Proof.Machine

open Sys2Proof.Spec

variable {s t : State} {i : Instr} {f : Fault} {v : Byte}

/-! A family's meaning by its operand selectors. -/

theorem exec_aluR (op : AluOp) (r : R8) (s : State) : exec (Row.aluR op r) s = answer (aluReg op r) s := by
  cases op <;> cases r <;> rfl

theorem exec_aluN (op : AluOp) (n : Byte) (s : State) : exec (Row.aluN op n) s = answer (aluImm op n) s := by
  cases op <;> rfl

theorem exec_aluHl (op : AluOp) (s : State) : exec (Row.aluHl op) s = answer (aluMem op) s := by
  cases op <;> rfl

theorem exec_incR (r : R8) (s : State) : exec (Row.incR r) s = answer (incReg r) s := by
  cases r <;> rfl

theorem exec_decR (r : R8) (s : State) : exec (Row.decR r) s = answer (decReg r) s := by
  cases r <;> rfl

/-! Result and flags of the eight operations (R231 to R238). -/

theorem subWith_noBorrow_toNat (a v : Byte) : (subWith a v false).1.toNat = (a.toNat + 256 - v.toNat) % 256 := by
  obtain ⟨hr, -⟩ := subWith_spec a v false
  have := v.isLt
  rw [hr, Bool.toNat_false]
  omega

/-- A difference is 0 only for equal bytes: what CP's Z says (R238). -/
theorem subWith_noBorrow_eq_zero (a v : Byte) : (subWith a v false).1 = 0 ↔ a = v := by
  have ha := a.isLt
  have hv := v.isLt
  rw [← BitVec.toNat_inj, subWith_noBorrow_toNat, ← BitVec.toNat_inj]
  show _ = 0 ↔ _
  omega

/-- Every operation writes a result to A and the flags; for CP the result is A itself. -/
theorem aluApply_spec (op : AluOp) (v : Byte) (s : State) :
    ∃ res g, AluResult op s.regs.a v s.flags.c res g ∧ aluApply op v s = (s.setReg .a res).setFlags g := by
  cases op
  case add => exact ⟨_, _, addWith_spec s.regs.a v false, rfl⟩
  case adc => exact ⟨_, _, addWith_spec s.regs.a v s.flags.c, rfl⟩
  case sub =>
    obtain ⟨-, hflags⟩ := subWith_spec s.regs.a v false
    exact ⟨_, _, ⟨subWith_noBorrow_toNat s.regs.a v, hflags⟩, rfl⟩
  case sbc => exact ⟨_, _, subWith_spec s.regs.a v s.flags.c, rfl⟩
  case and => exact ⟨_, _, ⟨fun _ _ => BitVec.getLsbD_and, logicFlags_spec _ true⟩, rfl⟩
  case xor => exact ⟨_, _, ⟨fun _ _ => BitVec.getLsbD_xor, logicFlags_spec _ false⟩, rfl⟩
  case or => exact ⟨_, _, ⟨fun _ _ => BitVec.getLsbD_or, logicFlags_spec _ false⟩, rfl⟩
  case cp =>
    obtain ⟨-, hz, hflags⟩ := subWith_spec s.regs.a v false
    exact ⟨s.regs.a, _, ⟨rfl, hz.trans (subWith_noBorrow_eq_zero _ v), hflags⟩,
      congrArg (State.setFlags · _) (s.setReg_reg .a).symm⟩

/-- Settles O46: the operation applied to the register or the immediate. -/
theorem aluOnRegistersAndImmediates : Obligations.AluOnRegistersAndImmediates := by
  refine fun op s => ⟨fun r => ?_, fun n => ?_⟩
  · obtain ⟨res, g, hres, happly⟩ := aluApply_spec op (s.reg r) s
    exact ⟨res, g, hres, (exec_aluR op r s).trans (congrArg Host.Outcome.next happly)⟩
  · obtain ⟨res, g, hres, happly⟩ := aluApply_spec op n s
    exact ⟨res, g, hres, (exec_aluN op n s).trans (congrArg Host.Outcome.next happly)⟩

theorem aluMem_ok (op : AluOp) (h : busRead s s.hl = .ok v) : aluMem op s = .ok () (aluApply op v (s.charge 4)) := by
  rw [aluMem, view_bind, M.bind_ok (memRead_ok h), update_run]

theorem aluMem_error (op : AluOp) (h : busRead s s.hl = .error f) : aluMem op s = .error f (s.charge 4) := by
  rw [aluMem, view_bind, M.bind_error (memRead_error h)]

/-- Settles O47: the operation applied to the byte read, in the state charged for the read. -/
theorem aluOnMemory : Obligations.AluOnMemory := by
  refine fun op s => ⟨fun v hv => ?_, fun f hf => (exec_aluHl op s).trans (answer_error (aluMem_error op hf))⟩
  obtain ⟨res, g, hres, happly⟩ := aluApply_spec op v (s.charge 4)
  exact ⟨res, g, hres, (exec_aluHl op s).trans (answer_ok (happly ▸ aluMem_ok op hv))⟩

/-! INC and DEC. -/

/-- INC (HL) and DEC (HL) by the byte they write and the flags they set, each from the byte read (R241, R242). -/
def modifyAtHl (res : Byte → Byte) (flags : Flags → Byte → Flags) : M Unit := do
  let v ← memRead (← view State.hl)
  memWrite (← view State.hl) (res v)
  update (fun s => s.setFlags (flags s.flags v))

theorem exec_incAtHL (s : State) : exec .incAtHL s = answer (modifyAtHl inc8 incFlags) s := rfl

theorem exec_decAtHL (s : State) : exec .decAtHL s = answer (modifyAtHl dec8 decFlags) s := rfl

variable {res : Byte → Byte} {flags : Flags → Byte → Flags}

theorem modifyAtHl_readFault (h : busRead s s.hl = .error f) : modifyAtHl res flags s = .error f (s.charge 4) := by
  rw [modifyAtHl, view_bind, M.bind_error (memRead_error h)]

theorem modifyAtHl_storeFault (h : busRead s s.hl = .ok v) (hf : memWrite s.hl (res v) (s.charge 4) = .error f t) :
    modifyAtHl res flags s = .error f t := by
  rw [modifyAtHl, view_bind, M.bind_ok (memRead_ok h), view_bind, State.charge_hl, M.bind_error hf]

/-- C is kept because the store leaves F alone. -/
theorem modifyAtHl_completes (h : busRead s s.hl = .ok v) (hw : s.MemoryWf) (hok : WriteOk s s.hl (res v)) :
    ∃ t, StoreEffect (s.charge 4) s.hl (res v) t ∧
      modifyAtHl res flags s = .ok () (t.setFlags (flags s.flags v)) := by
  obtain ⟨t, ht, hstore⟩ := memWrite_completes (hw.charge 4) (writeOk_of_sameBanks (.of_eq rfl) hok)
  obtain ⟨hregs, -⟩ := hstore.cpu
  have hflags : t.flags = s.flags := congrArg (fun r : Regs => Flags.ofByte r.f) hregs
  refine ⟨t, hstore, ?_⟩
  rw [modifyAtHl, view_bind, M.bind_ok (memRead_ok h), view_bind, State.charge_hl, M.bind_ok ht, update_run, hflags]

/-- What a row of this shape answers once the byte at HL is read. -/
theorem exec_of_modifyAtHl (hi : exec i s = answer (modifyAtHl res flags) s) (h : busRead s s.hl = .ok v) :
    (s.MemoryWf → WriteOk s s.hl (res v) →
      ∃ t, StoreEffect (s.charge 4) s.hl (res v) t ∧ exec i s = .next (t.setFlags (flags s.flags v))) ∧
    ∀ f t, memWrite s.hl (res v) (s.charge 4) = .error f t → exec i s = .next (t.withFault f) := by
  refine ⟨fun hw hok => ?_, fun f t hf => hi.trans (answer_error (modifyAtHl_storeFault h hf))⟩
  obtain ⟨t, hstore, ht⟩ := modifyAtHl_completes h hw hok
  exact ⟨t, hstore, hi.trans (answer_ok ht)⟩

/-- Settles O48: one register update, or the read and the store at HL. -/
theorem incrementAndDecrement : Obligations.IncrementAndDecrement := by
  refine ⟨fun r s => ⟨_, _, inc8_spec s.flags (s.reg r), exec_incR r s⟩,
    fun r s => ⟨_, _, dec8_spec s.flags (s.reg r), exec_decR r s⟩,
    fun s => ⟨fun v hv => ⟨?inc, ?dec⟩, fun f hf => ?fault⟩⟩
  case inc => exact ⟨_, _, inc8_spec s.flags v, exec_of_modifyAtHl (exec_incAtHL s) hv⟩
  case dec => exact ⟨_, _, dec8_spec s.flags v, exec_of_modifyAtHl (exec_decAtHL s) hv⟩
  case fault => exact ⟨answer_error (modifyAtHl_readFault hf), answer_error (modifyAtHl_readFault hf)⟩

end Sys2Proof.Machine
end

section
/-! PROOFS. 16-bit arithmetic, DAA, the flag operations and the accumulator rotates (41_alu.md R243 to R254). -/

namespace Sys2Proof.Machine

open Sys2Proof.Spec

variable {s t u : State} {i : Instr} {a : Byte} {g : Flags} {x y : Nat}

/-! 16-bit arithmetic (R243 to R246). -/

theorem exec_incRp (p : Rp) (s : State) : exec (Row.incRp p) s = answer (stepPair p 1) s := by
  cases p <;> rfl

theorem exec_decRp (p : Rp) (s : State) : exec (Row.decRp p) s = answer (stepPair p (-1)) s := by
  cases p <;> rfl

theorem exec_addHl (p : Rp) (s : State) : exec (Row.addHl p) s = answer (addHlPair p) s := by
  cases p <;> rfl

theorem stepPair_run (p : Rp) (delta : Word) (s : State) :
    stepPair p delta s = .ok () ((s.charge 4).setRp p (BitVec.ofNat 16 ((s.rp p).toNat + delta.toNat))) := by
  rw [stepPair, tick_bind, update_run, State.charge_rp, BitVec.add_def]

theorem addHlPair_run (p : Rp) (s : State) : addHlPair p s =
    .ok () (((s.charge 4).setHl (add16 s.flags s.hl (s.rp p)).1).setFlags (add16 s.flags s.hl (s.rp p)).2) := by
  rw [addHlPair, tick_bind, update_run, State.charge_flags, State.charge_hl, State.charge_rp]

/-- Settles O49: a pair stepped by 1 or by -1, which is 65535 modulo 2^16, and the sums of `add16` and `addSpE`. -/
theorem sixteenBitArithmetic : Obligations.SixteenBitArithmetic := by
  refine ⟨fun p s => (exec_incRp p s).trans (answer_ok (stepPair_run p 1 s)),
    fun p s => (exec_decRp p s).trans (answer_ok (stepPair_run p (-1) s)), fun p s => ?_, fun e s => ?_⟩
  · obtain ⟨hsum, hflags⟩ := add16_spec s.flags s.hl (s.rp p)
    exact ⟨_, (exec_addHl p s).trans (answer_ok (hsum ▸ addHlPair_run p s)), hflags⟩
  · obtain ⟨hsum, hflags⟩ := addSpE_spec s.regs.sp e
    refine ⟨(addSpE s.regs.sp e).2, ?_, hflags⟩
    rw [← hsum, ← s.charge_charge 4 4]
    rfl

/-! DAA and the flag operations (R247 to R250). -/

theorem exec_daa (s : State) : exec .daa s = .next (s.setResult (daa s.regs.a s.flags)) := rfl

theorem xor_allOnes_eq_ofNat (v : Byte) : v ^^^ 0xFF = BitVec.ofNat 8 (255 - v.toNat) := by
  have hnot : v ^^^ 0xFF = ~~~v := BitVec.xor_allOnes
  have hval : (~~~v).toNat = 255 - v.toNat := BitVec.toNat_not
  rw [hnot, ← hval, BitVec.ofNat_toNat, BitVec.setWidth_eq]

/-- Settles O50: DAA's corrections are those of `daa_spec`; the other three are one update each. -/
theorem decimalAdjustAndFlagOps : Obligations.DecimalAdjustAndFlagOps := by
  intro s
  obtain ⟨hres, hz, hn, hh, hc⟩ := daa_spec s.regs.a s.flags
  refine ⟨⟨_, _, hres, hz, hn, hh, hc, exec_daa s⟩, ?_, rfl, rfl⟩
  rw [← xor_allOnes_eq_ofNat]
  rfl

/-! Decimal arithmetic (R231, R233, R247). -/

theorem daaHigh_add (hn : g.n = false) : daaHigh a g ↔ g.c = true ∨ a.toNat > 0x99 := by simp [daaHigh, hn]

theorem daaLow_add (hn : g.n = false) : daaLow a g ↔ g.h = true ∨ a.toNat % 16 > 9 := by simp [daaLow, hn]

theorem daaHigh_sub (hn : g.n = true) : daaHigh a g ↔ g.c = true := by simp [daaHigh, hn]

theorem daaLow_sub (hn : g.n = true) : daaLow a g ↔ g.h = true := by simp [daaLow, hn]

/-- DAA's result by what decides its two corrections. -/
theorem daa_toNat {P Q : Prop} [Decidable P] [Decidable Q] (hhigh : daaHigh a g ↔ P) (hlow : daaLow a g ↔ Q) :
    (daa a g).1.toNat =
      if g.n then (a.toNat + 256 - (if P then 0x60 else 0) - if Q then 0x06 else 0) % 256
      else (a.toNat + (if P then 0x60 else 0) + if Q then 0x06 else 0) % 256 := by
  obtain ⟨⟨p, q, hp, hp', hq, hq', hres⟩, -⟩ := daa_spec a g
  have hpval : p = if P then 0x60 else 0 := by
    split_ifs with h
    · exact hp (hhigh.2 h)
    · exact hp' (mt hhigh.1 h)
  have hqval : q = if Q then 0x06 else 0 := by
    split_ifs with h
    · exact hq (hlow.2 h)
    · exact hq' (mt hlow.1 h)
  rw [hres, hpval, hqval]

/-- The tens digit stands in the high nibble and the units digit in the low one. -/
theorem bcd_toNat {n p q : Nat} (h : n = 10 * p + q) (hp : p ≤ 9) (hq : q ≤ 9) : (bcd n).toNat = 16 * p + q := by
  have htens : n / 10 = p := by omega
  have hunits : n % 10 = q := by omega
  rw [bcd, htens, hunits, Nat.mod_eq_of_lt (by omega)]
  exact Nat.mod_eq_of_lt (by omega)

theorem bcd_digits (hx : x < 100) :
    ∃ p q, p ≤ 9 ∧ q ≤ 9 ∧ x = 10 * p + q ∧ (bcd x).toNat = 16 * p + q ∧ (bcd x).toNat % 16 = q := by
  have hdigits : x = 10 * (x / 10) + x % 10 := by omega
  have hval := bcd_toNat hdigits (by omega) (by omega)
  exact ⟨x / 10, x % 10, by omega, by omega, hdigits, hval, by omega⟩

/-- After an addition a digit above 9 is corrected: it shows in the nibble, or in the nibble's carry. -/
theorem daa_addWith_bcd {w : Byte × Flags} (hw : w = addWith (bcd x) (bcd y) false) (hx : x < 100) (hy : y < 100) :
    (daa w.1 w.2).1 = bcd ((x + y) % 100) ∧ ((daa w.1 w.2).2.c = true ↔ 99 < x + y) := by
  obtain ⟨hr, -, hn, hh, hc⟩ := addWith_spec (bcd x) (bcd y) false
  obtain ⟨-, -, -, -, hcarry⟩ := daa_spec w.1 w.2
  rw [← hw] at hr hn hh hc
  obtain ⟨p, q, hp, hq, rfl, hbx, hqx⟩ := bcd_digits hx
  obtain ⟨p', q', hp', hq', rfl, hby, hqy⟩ := bcd_digits hy
  rw [hqx, hqy] at hh
  rw [hbx, hby] at hr hc
  rw [Bool.toNat_false, Nat.add_zero] at hr hh hc
  have hhigh : daaHigh w.1 w.2 ↔ 99 < 10 * p + q + (10 * p' + q') := by
    rw [daaHigh_add hn, hc]
    omega
  have hlow : daaLow w.1 w.2 ↔ 9 < q + q' := by
    rw [daaLow_add hn, hh]
    omega
  refine ⟨BitVec.eq_of_toNat_eq ?_, hcarry.trans hhigh⟩
  rw [daa_toNat hhigh hlow, hn, if_neg Bool.false_ne_true, hr]
  split_ifs
  · rw [bcd_toNat (p := p + p' + 1 - 10) (q := q + q' - 10)] <;> omega
  · rw [bcd_toNat (p := p + p' - 10) (q := q + q')] <;> omega
  · rw [bcd_toNat (p := p + p' + 1) (q := q + q' - 10)] <;> omega
  · rw [bcd_toNat (p := p + p') (q := q + q')] <;> omega

/-- After a subtraction a digit that borrowed is corrected: the flags say which did. -/
theorem daa_subWith_bcd {w : Byte × Flags} (hw : w = subWith (bcd x) (bcd y) false) (hx : x < 100) (hy : y < 100) :
    (daa w.1 w.2).1 = bcd ((x + 100 - y) % 100) ∧ ((daa w.1 w.2).2.c = true ↔ x < y) := by
  obtain ⟨hr, -, hn, hh, hc⟩ := subWith_spec (bcd x) (bcd y) false
  obtain ⟨-, -, -, -, hcarry⟩ := daa_spec w.1 w.2
  rw [← hw] at hr hn hh hc
  obtain ⟨p, q, hp, hq, rfl, hbx, hqx⟩ := bcd_digits hx
  obtain ⟨p', q', hp', hq', rfl, hby, hqy⟩ := bcd_digits hy
  rw [hqx, hqy] at hh
  rw [hbx, hby] at hr hc
  rw [Bool.toNat_false] at hr hh hc
  have hhigh : daaHigh w.1 w.2 ↔ 10 * p + q < 10 * p' + q' := by
    rw [daaHigh_sub hn, hc]
    omega
  have hlow : daaLow w.1 w.2 ↔ q < q' := by
    rw [daaLow_sub hn, hh]
    rfl
  refine ⟨BitVec.eq_of_toNat_eq ?_, hcarry.trans hhigh⟩
  rw [daa_toNat hhigh hlow, hn, if_pos rfl, hr]
  split_ifs
  · rw [bcd_toNat (p := p + 9 - p') (q := q + 10 - q')] <;> omega
  · rw [bcd_toNat (p := p + 10 - p') (q := q - q')] <;> omega
  · rw [bcd_toNat (p := p - 1 - p') (q := q + 10 - q')] <;> omega
  · rw [bcd_toNat (p := p - p') (q := q - q')] <;> omega

/-- DAA sees the result and the flags of the operation before it. -/
theorem daa_after_setResult {r : Byte × Flags} (hi : exec i s = .next (s.setResult r)) (hop : exec i s = .next t)
    (hdaa : exec .daa t = .next u) : u.regs.a = (daa r.1 r.2).1 ∧ u.flags = (daa r.1 r.2).2 := by
  rw [hi] at hop
  cases hop
  have hflags : (s.setResult r).flags = r.2 := State.setFlags_flags _ r.2
  rw [exec_daa, hflags] at hdaa
  cases hdaa
  exact ⟨rfl, State.setFlags_flags _ _⟩

/-- Settles O51: DAA corrects the binary sum or difference of two decimal bytes, digit by digit. -/
theorem decimalArithmeticIsExact : Obligations.DecimalArithmeticIsExact := by
  intro s t u x y hx hy ha
  refine ⟨fun hop hdaa => ?_, fun hop hdaa => ?_⟩
  · obtain ⟨hres, hflags⟩ := daa_after_setResult (r := addWith s.regs.a (bcd y) false) rfl hop hdaa
    rw [hres, hflags, ha]
    exact daa_addWith_bcd rfl hx hy
  · obtain ⟨hres, hflags⟩ := daa_after_setResult (r := subWith s.regs.a (bcd y) false) rfl hop hdaa
    rw [hres, hflags, ha]
    exact daa_subWith_bcd rfl hx hy

/-! The accumulator rotates (R251 to R254). -/

/-- An accumulator rotate gives A the number and C the bit of the 0xCB rotate of the same name, and Z is 0. -/
theorem exec_of_rotAcc {op : RotOp} {n : Nat} {P : Prop} [Decidable P] (h : exec i s = answer (rotAcc (rotApply op)) s)
    (hrot : (rotApply op s.regs.a s.flags.c).1.toNat = n ∧ ((rotApply op s.regs.a s.flags.c).2 = true ↔ P)) :
    exec i s =
      .next ((s.setReg .a (BitVec.ofNat 8 n)).setFlags { z := false, n := false, h := false, c := decide P }) := by
  obtain ⟨hres, hcarry⟩ := hrot
  have hbit : (rotApply op s.regs.a s.flags.c).2 = decide P := by rw [Bool.eq_iff_iff, hcarry, decide_eq_true_iff]
  rw [h, ← hres, ← hbit, BitVec.ofNat_toNat, BitVec.setWidth_eq]
  rfl

/-- Settles O52: the four 0xCB rotates of `rotApply_spec`, on A. -/
theorem accumulatorRotates : Obligations.AccumulatorRotates := fun s =>
  ⟨exec_of_rotAcc rfl (rotApply_spec .rlc s.regs.a s.flags.c),
    exec_of_rotAcc rfl (rotApply_spec .rrc s.regs.a s.flags.c),
    exec_of_rotAcc rfl (rotApply_spec .rl s.regs.a s.flags.c),
    exec_of_rotAcc rfl (rotApply_spec .rr s.regs.a s.flags.c)⟩

end Sys2Proof.Machine
end

section
/-! PROOFS. Jumps, calls, restarts and returns (42_control.md R270 to R281). -/

namespace Sys2Proof.Machine

open Sys2Proof.Spec

variable {s t : State} {i : Instr} {f : Fault} {when_ : State → Prop} {cc : Cond}

/-! Conditions (R270). -/

theorem cond_eq_condHolds (cc : Cond) (s : State) : s.cond cc = condHolds cc s.regs.f := by
  cases cc <;> rfl

theorem answer_ifCond (cc : Cond) (m : M Unit) (s : State) :
    answer (ifCond cc m) s = if condHolds cc s.regs.f then answer m s else .next s := by
  rw [answer, ifCond, view_bind, cond_eq_condHolds]
  cases condHolds cc s.regs.f with
  | true => rfl
  | false => rfl

theorem answer_ifCond_taken (m : M Unit) (h : condHolds cc s.regs.f = true) :
    answer (ifCond cc m) s = answer m s :=
  (answer_ifCond cc m s).trans (if_pos h)

theorem answer_ifCond_notTaken (m : M Unit) (h : condHolds cc s.regs.f = false) : answer (ifCond cc m) s = .next s :=
  (answer_ifCond cc m s).trans (if_neg (Bool.eq_false_iff.mp h))

/-- An operation that always completes, under a condition. -/
theorem answer_ifCond_ok {m : M Unit} (cc : Cond) (h : m s = .ok () t) :
    answer (ifCond cc m) s = .next (if condHolds cc s.regs.f then t else s) := by
  rw [answer_ifCond, answer_ok h, apply_ite Host.Outcome.next]

/-! A family's meaning by its condition or its number. -/

theorem exec_jpCc (cc : Cond) (nn : Word) (s : State) : exec (Row.jpCc cc nn) s = answer (ifCond cc (jpAbs nn)) s := by
  cases cc <;> rfl

theorem exec_jrCc (cc : Cond) (e : Byte) (s : State) : exec (Row.jrCc cc e) s = answer (ifCond cc (jrRel e)) s := by
  cases cc <;> rfl

theorem exec_callCc (cc : Cond) (nn : Word) (s : State) :
    exec (Row.callCc cc nn) s = answer (ifCond cc (callAbs nn)) s := by
  cases cc <;> rfl

theorem exec_retCc (cc : Cond) (s : State) : exec (Row.retCc cc) s = answer (ifCond cc retPop) (s.charge 4) := by
  cases cc <;> rfl

theorem exec_rst (y : BitVec 3) (s : State) :
    exec (Row.rst y) s = answer (callAbs (BitVec.ofNat 16 (8 * y.toNat))) s := by
  obtain ⟨n, hn⟩ := y
  interval_cases n <;> rfl

/-! Jumps (R271 to R275). -/

theorem jpAbs_run (nn : Word) (s : State) : jpAbs nn s = .ok () ((s.charge 4).setPc nn) := rfl

theorem jrRel_run (e : Byte) (s : State) :
    jrRel e s = .ok () ((s.charge 4).setPc (BitVec.ofInt 16 (s.regs.pc.toNat + e.toInt))) := by
  rw [jrRel, tick_bind, update_run, State.charge_regs, add_sext16]

/-- Settles O53: both jumps always complete, so a conditional one is `answer_ifCond_ok`. -/
theorem jumps : Obligations.Jumps := fun s =>
  ⟨fun nn => answer_ok (jpAbs_run nn s),
    fun cc nn => (exec_jpCc cc nn s).trans (answer_ifCond_ok cc (jpAbs_run nn s)),
    rfl,
    fun e => answer_ok (jrRel_run e s),
    fun cc e => (exec_jrCc cc e s).trans (answer_ifCond_ok cc (jrRel_run e s))⟩

/-! Calls and restarts (R276, R277, R281). -/

theorem callAbs_ok {nn : Word} (h : push16 s.regs.pc (s.charge 4) = .ok () t) : callAbs nn s = .ok () (t.setPc nn) := by
  rw [callAbs, tick_bind, view_bind, State.charge_regs, M.bind_ok h, update_run]

theorem callAbs_error {nn : Word} (h : push16 s.regs.pc (s.charge 4) = .error f t) : callAbs nn s = .error f t := by
  rw [callAbs, tick_bind, view_bind, State.charge_regs, M.bind_error h]

theorem pushes_callAbs {nn : Word} (h : ∀ s, when_ s → exec i s = answer (callAbs nn) s) :
    Pushes when_ i (fun s => s.regs.pc) fun t => t.setPc nn where
  completes s hs hw hhi hlo := by
    obtain ⟨t, ht, heffect⟩ := push16_completes (hw.charge 4) (writeOk_of_sameBanks (.of_eq rfl) hhi)
      (writeOk_of_sameBanks (.of_eq rfl) hlo)
    exact ⟨t, heffect, (h s hs).trans (answer_ok (callAbs_ok ht))⟩
  faults s _ _ hs hf := (h s hs).trans (answer_error (callAbs_error (push16_fault hf)))

/-- Settles O54: a taken CALL and RST are `callAbs`. -/
theorem callsAndRestarts : Obligations.CallsAndRestarts :=
  ⟨fun _ => pushes_callAbs fun _ _ => rfl,
    fun cc nn => pushes_callAbs fun s hc => (exec_callCc cc nn s).trans (answer_ifCond_taken _ hc),
    fun cc nn s hc => (exec_callCc cc nn s).trans (answer_ifCond_notTaken _ hc),
    fun y => pushes_callAbs fun s _ => exec_rst y s⟩

/-! Returns (R278 to R280). -/

/-- A row that charges `before`, pops a word and completes with it. -/
theorem pops_of_pop16 {before : Nat} {m : Word → M Unit} {post : Word → State → State}
    (h : ∀ s, when_ s → exec i s = answer (pop16 >>= m) (s.charge before))
    (hm : ∀ v t, m v t = .ok () (post v t)) : Pops when_ i before post where
  completes s lo hi hs hlo hhi := by
    rw [h s hs, ← word16_eq_ofNat, ← s.charge_charge before 8]
    exact answer_ok ((M.bind_ok (pop16_ok (s := s.charge before) hlo hhi)).trans (hm _ _))
  faultsLow s f hs hf := by
    rw [h s hs, ← s.charge_charge before 4]
    exact answer_error (M.bind_error (pop16_errorLo hf))
  faultsHigh s lo f hs hlo hf := by
    rw [h s hs, ← s.charge_charge before 8]
    exact answer_error (M.bind_error (pop16_errorHi hlo hf))

/-- RET, after the `before` cycles that RET cc charges first. -/
theorem pops_retPop {before : Nat} (h : ∀ s, when_ s → exec i s = answer retPop (s.charge before)) :
    Pops when_ i before fun v s => (s.charge 4).setPc v :=
  pops_of_pop16 h fun _ _ => rfl

/-- Settles O55: each return pops, ticks and sets PC; RETI sets IME with it. -/
theorem returns : Obligations.Returns :=
  ⟨pops_retPop fun _ _ => rfl,
    fun cc => pops_retPop fun s hc => (exec_retCc cc s).trans (answer_ifCond_taken (s := s.charge 4) _ hc),
    fun cc s hc => (exec_retCc cc s).trans (answer_ifCond_notTaken (s := s.charge 4) _ hc),
    pops_of_pop16 (fun _ _ => rfl) fun _ _ => rfl⟩

end Sys2Proof.Machine
end

section
/-! PROOFS. The 0xCB rotates, shifts, SWAP, BIT, RES and SET (43_cb_prefix.md R290 to R301). -/

namespace Sys2Proof.Machine

open Sys2Proof.Spec

variable {s : State} {i : Instr} {f : Fault} {v w : Byte}

/-! Results and flags. -/

theorem rotResult_rotApply (op : RotOp) (v : Byte) (c : Bool) :
    RotResult op v c (rotApply op v c).1 (rotApply op v c).2 := by
  cases op
  case swap =>
    obtain ⟨hres, -⟩ := rotApply_spec .swap v c
    exact ⟨hres, rfl⟩
  all_goals exact rotApply_spec _ v c

theorem rotFlags_cbRotFlags (w : Byte) (c : Bool) : RotFlags w c (cbRotFlags w c) :=
  ⟨decide_eq_true_iff, rfl, rfl, rfl⟩

theorem bitFlags_spec (v : Byte) (b : BitVec 3) (g : Flags) : BitFlags v b g (bitFlags g v b) :=
  ⟨Iff.of_eq (Bool.not_eq_true' _), rfl, rfl, rfl⟩

/-- Of the bits of a byte, the mask of RES and SET has bit b alone. -/
theorem getLsbD_bitMask (b : BitVec 3) (k : Nat) : (1#8 <<< b.toNat).getLsbD k = decide (k = b.toNat) := by
  have hb : b.toNat < 8 := b.isLt
  rw [← BitVec.twoPow_eq, BitVec.getLsbD_twoPow, decide_eq_true hb, Bool.true_and]
  exact decide_eq_decide.mpr eq_comm

theorem bitSet_clearBit (v : Byte) (b : BitVec 3) : BitSet v b false (v &&& ~~~(1#8 <<< b.toNat)) := by
  intro k hk
  rw [BitVec.getLsbD_and, BitVec.getLsbD_not, getLsbD_bitMask, decide_eq_true hk, Bool.true_and]
  split_ifs with hkb
  · rw [decide_eq_true hkb, Bool.not_true, Bool.and_false]
  · rw [decide_eq_false hkb, Bool.not_false, Bool.and_true]

theorem bitSet_setBit (v : Byte) (b : BitVec 3) : BitSet v b true (v ||| (1#8 <<< b.toNat)) := by
  intro k _
  rw [BitVec.getLsbD_or, getLsbD_bitMask]
  split_ifs with hkb
  · rw [decide_eq_true hkb, Bool.or_true]
  · rw [decide_eq_false hkb, Bool.or_false]

/-- Settles O56: with a register operand each rule is one update of the state. -/
theorem cbOnRegisters : Obligations.CbOnRegisters := fun s r =>
  ⟨fun op => ⟨_, _, _, rotResult_rotApply op _ _, rotFlags_cbRotFlags _ _, exec_rotR op r s⟩,
    fun b => ⟨⟨_, bitFlags_spec _ b s.flags, exec_bitR b r s⟩, ⟨_, bitSet_clearBit _ b, exec_resR b r s⟩,
      ⟨_, bitSet_setBit _ b, exec_setR b r s⟩⟩⟩

/-! The byte at HL. -/

theorem cbGet_hl_ok (h : busRead s s.hl = .ok v) : cbGet .hl s = .ok v (s.charge 4) := memRead_ok h

/-- Every rule reads its operand first, so a read that faults ends it. -/
theorem exec_of_cbGet_error {m : Byte → M Unit} (h : busRead s s.hl = .error f)
    (hi : exec i s = answer (cbGet .hl >>= m) s) : exec i s = .next ((s.charge 4).withFault f) :=
  hi.trans (answer_error (M.bind_error (memRead_error h)))

theorem cbRot_hl_run (op : RotOp) (h : busRead s s.hl = .ok v) :
    cbRot op .hl s = (memWrite s.hl (rotApply op v s.flags.c).1 >>= fun _ =>
      update (·.setFlags (cbRotFlags (rotApply op v s.flags.c).1 (rotApply op v s.flags.c).2))) (s.charge 4) :=
  M.bind_ok (cbGet_hl_ok h)

theorem cbRes_hl_run (b : BitVec 3) (h : busRead s s.hl = .ok v) :
    cbRes b .hl s = memWrite s.hl (v &&& ~~~(1#8 <<< b.toNat)) (s.charge 4) := M.bind_ok (cbGet_hl_ok h)

theorem cbSet_hl_run (b : BitVec 3) (h : busRead s s.hl = .ok v) :
    cbSet b .hl s = memWrite s.hl (v ||| (1#8 <<< b.toNat)) (s.charge 4) := M.bind_ok (cbGet_hl_ok h)

/-- What a row answers that, after its read's 4 cycles, stores `w` at HL and then does `post`. -/
theorem exec_of_storeAtHl {m : M Unit} {post : State → State} (hi : exec i s = answer m s)
    (hm : m s = (memWrite s.hl w >>= fun _ => update post) (s.charge 4)) :
    (s.MemoryWf → WriteOk s s.hl w → ∃ t, StoreEffect (s.charge 4) s.hl w t ∧ exec i s = .next (post t)) ∧
    ∀ f t, memWrite s.hl w (s.charge 4) = .error f t → exec i s = .next (t.withFault f) := by
  refine ⟨fun hw hok => ?_, fun f t hf => hi.trans (answer_error (hm.trans (M.bind_error hf)))⟩
  obtain ⟨t, ht, hstore⟩ := memWrite_completes (hw.charge 4) (writeOk_of_sameBanks (.of_eq rfl) hok)
  exact ⟨t, hstore, hi.trans (answer_ok (hm.trans (M.bind_ok ht)))⟩

/-- RES and SET do nothing after the store. -/
theorem exec_of_storeAtHl_only {m : M Unit} (hi : exec i s = answer m s) (hm : m s = memWrite s.hl w (s.charge 4)) :
    (s.MemoryWf → WriteOk s s.hl w → ∃ t, StoreEffect (s.charge 4) s.hl w t ∧ exec i s = .next t) ∧
    ∀ f t, memWrite s.hl w (s.charge 4) = .error f t → exec i s = .next (t.withFault f) :=
  exec_of_storeAtHl (post := id) hi (hm.trans (congrFun (bind_pure_unit (x := memWrite s.hl w)).symm _))

/-- Settles O57, by what the read at HL answers: a fault ends the rule there, and after a byte the rule is the store of
its result, or BIT's flags alone. -/
theorem cbOnMemory : Obligations.CbOnMemory := by
  refine fun s => ⟨fun f hf => ⟨fun op => exec_of_cbGet_error hf (exec_rotHl op s), fun b =>
    ⟨exec_of_cbGet_error hf (exec_bitHl b s), exec_of_cbGet_error hf (exec_resHl b s),
      exec_of_cbGet_error hf (exec_setHl b s)⟩⟩, fun v hv => ⟨fun op => ?rot, fun b => ⟨?bit, fun x => ?resSet⟩⟩⟩
  case rot => exact ⟨_, _, _, rotResult_rotApply op v _, rotFlags_cbRotFlags _ _,
    exec_of_storeAtHl (exec_rotHl op s) (cbRot_hl_run op hv)⟩
  case bit => exact ⟨_, bitFlags_spec v b s.flags, (exec_bitHl b s).trans (answer_ok (M.bind_ok (cbGet_hl_ok hv)))⟩
  case resSet =>
    cases x with
    | false => exact ⟨_, bitSet_clearBit v b, exec_of_storeAtHl_only (exec_resHl b s) (cbRes_hl_run b hv)⟩
    | true => exact ⟨_, bitSet_setBit v b, exec_of_storeAtHl_only (exec_setHl b s) (cbSet_hl_run b hv)⟩

end Sys2Proof.Machine
end

section
/-! PROOFS. The system instructions and the unused bytes (44_system.md R310 to R315). -/

namespace Sys2Proof.Machine

variable {i : Instr} {op : Byte}

@[simp] theorem raiseDecode_run {α : Type} (fetched : Word) (byte : Byte) (s : State) :
    (raiseDecode fetched byte : M α) s = .error (.decodeError (s.regs.pc - fetched) byte) s := rfl

theorem stopOp_trailing {u : Byte} (hu : u ≠ 0x00) (s : State) :
    stopOp u s = .error (.decodeError (s.regs.pc - 2) u) s := by
  rw [stopOp, if_neg hu, raiseDecode_run]

/-- The rows of the opcode map that have no instruction, and their bytes (R130). -/
def unusedRows : List (Instr × Byte) :=
  [(.unusedD3, 0xD3), (.unusedDB, 0xDB), (.unusedDD, 0xDD), (.unusedE3, 0xE3), (.unusedE4, 0xE4), (.unusedEB, 0xEB),
    (.unusedEC, 0xEC), (.unusedED, 0xED), (.unusedF4, 0xF4), (.unusedFC, 0xFC), (.unusedFD, 0xFD)]

theorem encode_unused (h : (i, op) ∈ unusedRows) : encode i = [op] := by
  have hrow : ∀ r ∈ unusedRows, encode r.1 = [r.2] := by decide
  exact hrow _ h

/-- An unused row is read from its one byte, which is not 0xCB. -/
theorem decodeOp_unused (h : (i, op) ∈ unusedRows) :
    operandBytes op = 0 ∧ op ≠ 0xCB ∧ decodeOp op 0 0 = .ok i := by
  have hrow : ∀ r ∈ unusedRows, operandBytes r.2 = 0 ∧ r.2 ≠ 0xCB ∧ decodeOp r.2 0 0 = .ok r.1 := by decide
  exact hrow _ h

/-- The meaning of an unused row is the DecodeError of its byte (R315). -/
theorem exec_unused (h : (i, op) ∈ unusedRows) (s : State) :
    exec i s = .next (s.withFault (.decodeError (s.regs.pc - 1) op)) := by
  unfold unusedRows at h
  fin_cases h <;> rfl

/-- Settles O59: each row completes with one update of the state, or raises its DecodeError. -/
theorem systemInstructionsAndUnusedBytes : Obligations.SystemInstructionsAndUnusedBytes :=
  ⟨fun _ => rfl, fun _ => rfl, fun _ => rfl, fun _ => rfl, fun _ => rfl,
    fun _ hu s => answer_error (stopOp_trailing hu s),
    fun _ _ h => ⟨encode_unused h, exec_unused h⟩⟩

end Sys2Proof.Machine
end

section
/-! PROOFS. A step whose fetch or decode raises an error (30_encoding.md R136; 60_exceptions.md R401, R404). -/

namespace Sys2Proof.Machine

open Sys2Proof.Spec

variable {s t : State} {i : Instr} {op b u : Byte} {f : Fault} {n : Nat} {rest : List Byte}

/-! Fetching one byte after another: `afterFetch s n` is where the fetch of byte n starts. -/

theorem afterFetch_zero (s : State) : afterFetch s 0 = { s with cyc := 0 } := by
  simp [afterFetch, State.setPc]

theorem fetch8_afterFetch_ok (h : busRead s (s.regs.pc + BitVec.ofNat 16 n) = .ok b) :
    fetch8 (afterFetch s n) = .ok b (afterFetch s (n + 1)) := by
  have hn : BitVec.ofNat 16 n + 1 = BitVec.ofNat 16 (n + 1) := (BitVec.ofNat_add n 1).symm
  have hnext : afterFetch s (n + 1) = ((afterFetch s n).charge 4).setPc (s.regs.pc + BitVec.ofNat 16 n + 1) := by
    rw [BitVec.add_assoc, hn]
    rfl
  rw [hnext]
  exact fetch8_ok h

theorem fetch8_afterFetch_error (h : busRead s (s.regs.pc + BitVec.ofNat 16 n) = .error f) :
    fetch8 (afterFetch s n) = .error f ((afterFetch s n).charge 4) :=
  fetch8_error h

/-- The address of a DecodeError is that of the instruction's first byte (R400). -/
theorem raiseDecode_afterFetch {α : Type} (n : Nat) (b : Byte) (s : State) :
    (raiseDecode (BitVec.ofNat 16 n) b : M α) (afterFetch s n) =
      .error (.decodeError s.regs.pc b) (afterFetch s n) := by
  rw [raiseDecode_run, afterFetch, State.setPc_regs_pc, BitVec.add_sub_cancel]

theorem busRead_opcode (h : Fetched s (op :: rest)) : busRead s (s.regs.pc + BitVec.ofNat 16 0) = .ok op :=
  h 0 (Nat.succ_pos _)

theorem busRead_operand (h : Fetched s (op :: b :: rest)) : busRead s (s.regs.pc + BitVec.ofNat 16 1) = .ok b :=
  h 1 (Nat.succ_lt_succ (Nat.succ_pos _))

/-! The operand bytes (R137). -/

theorem fetchOperands_errorFirst (hn : 1 ≤ n) (h : busRead s (s.regs.pc + BitVec.ofNat 16 1) = .error f) :
    fetchOperands n (afterFetch s 1) = .error f ((afterFetch s 1).charge 4) := by
  match n with
  | 1 => exact M.bind_error (fetch8_afterFetch_error h)
  | _ + 2 => exact M.bind_error (fetch8_afterFetch_error h)

theorem fetchOperands_errorSecond (hn : 2 ≤ n) (hb : busRead s (s.regs.pc + BitVec.ofNat 16 1) = .ok b)
    (h : busRead s (s.regs.pc + BitVec.ofNat 16 2) = .error f) :
    fetchOperands n (afterFetch s 1) = .error f ((afterFetch s 2).charge 4) := by
  match n with
  | _ + 2 => exact (M.bind_ok (fetch8_afterFetch_ok hb)).trans (M.bind_error (fetch8_afterFetch_error h))

theorem fetchOperands_one (hb : busRead s (s.regs.pc + BitVec.ofNat 16 1) = .ok b) :
    fetchOperands 1 (afterFetch s 1) = .ok (b, 0) (afterFetch s 2) :=
  M.bind_ok (fetch8_afterFetch_ok hb)

/-! The bytes fetched, checked and decoded. -/

/-- What `fetchInstr` does once all bytes are fetched: the check of the 0xCB sub-byte, then the decoder (R290, R404). -/
def decodeFetched (op b1 b2 : Byte) : M Instr := do
  if (← view (fun s => op = 0xCB && decide (b1 ∈ s.extra.subs))) then raiseDecode 2 b1
  else decodeOrRaise op b1 b2

theorem decodeFetched_extra (hextra : b ∈ s.extra.subs) :
    decodeFetched 0xCB b 0 (afterFetch s 2) = .error (.decodeError s.regs.pc b) (afterFetch s 2) :=
  (congrFun (if_pos (decide_eq_true hextra)) _).trans (raiseDecode_afterFetch 2 b s)

theorem decodeFetched_of_ne_cb (hop : op ≠ 0xCB) (b1 b2 : Byte) :
    decodeFetched op b1 b2 s = decodeOrRaise op b1 b2 s := by
  rw [decodeFetched, view_bind, decide_eq_false hop]
  rfl

theorem decodeFetched_stop (hu : u ≠ 0x00) :
    decodeFetched 0x10 u 0 (afterFetch s 2) = .error (.decodeError s.regs.pc u) (afterFetch s 2) := by
  rw [decodeFetched_of_ne_cb (by decide), decodeOrRaise, decodeOp_stop hu]
  exact raiseDecode_afterFetch 2 u s

/-! The whole fetch. -/

theorem fetchInstr_opcodeFault (h : busRead s s.regs.pc = .error f) :
    fetchInstr (afterFetch s 0) = .error f ((afterFetch s 0).charge 4) := by
  refine M.bind_error (fetch8_afterFetch_error ?_)
  rw [BitVec.add_zero]
  exact h

theorem fetchInstr_extra (h : Fetched s (op :: rest)) (hextra : op ∈ s.extra.ops) :
    fetchInstr (afterFetch s 0) = .error (.decodeError s.regs.pc op) (afterFetch s 1) :=
  (M.bind_ok (fetch8_afterFetch_ok (busRead_opcode h))).trans
    ((congrFun (if_pos (decide_eq_true hextra)) _).trans (raiseDecode_afterFetch 1 op s))

/-- An opcode byte outside EXTRA_DECODE_ERRORS has its operand bytes fetched next (R136, R137). -/
theorem fetchInstr_opcode (h : Fetched s (op :: rest)) (hextra : op ∉ s.extra.ops) :
    fetchInstr (afterFetch s 0) =
      (fetchOperands (operandBytes op) >>= fun b => decodeFetched op b.1 b.2) (afterFetch s 1) :=
  (M.bind_ok (fetch8_afterFetch_ok (busRead_opcode h))).trans
    (congrFun (if_neg fun hmem => hextra (of_decide_eq_true hmem)) _)

theorem fetchInstr_operandFault (h : Fetched s (op :: rest)) (hextra : op ∉ s.extra.ops)
    (hf : fetchOperands (operandBytes op) (afterFetch s 1) = .error f t) : fetchInstr (afterFetch s 0) = .error f t :=
  (fetchInstr_opcode h hextra).trans (M.bind_error hf)

theorem fetchInstr_twoBytes (h : Fetched s [op, b]) (hextra : op ∉ s.extra.ops) (hlen : operandBytes op = 1) :
    fetchInstr (afterFetch s 0) = decodeFetched op b 0 (afterFetch s 2) := by
  rw [fetchInstr_opcode h hextra, hlen]
  exact M.bind_ok (fetchOperands_one (busRead_operand h))

/-- An unused byte is fetched and decoded as any other; its row raises the error (R315). -/
theorem fetchInstr_unused (hi : (i, op) ∈ unusedRows) (h : Fetched s (op :: rest)) (hextra : op ∉ s.extra.ops) :
    fetchInstr (afterFetch s 0) = .ok i (afterFetch s 1) := by
  obtain ⟨hlen, hcb, hdec⟩ := decodeOp_unused hi
  rw [fetchInstr_opcode h hextra, hlen]
  show decodeFetched op 0 0 (afterFetch s 1) = _
  rw [decodeFetched_of_ne_cb hcb, decodeOrRaise, hdec]
  rfl

/-! The step around it (R402). -/

/-- The next step of a machine that fetches. -/
theorem step_of_fetches (hs : Fetches s) : step s = (fetchExecute exec (afterFetch s 0)).andThen afterExec := by
  obtain ⟨hfault, hhalted⟩ := hs
  rw [step, hfault, afterFetch_zero]
  exact if_neg (Bool.eq_false_iff.1 hhalted)

/-- A fetch that raises an error ends the step: the devices do not advance (R401). -/
theorem step_of_fetchError (hs : Fetches s) (h : fetchInstr (afterFetch s 0) = .error f t) :
    step s = .next (t.withFault f) := by
  rw [step_of_fetches hs, fetchExecute, h]
  rfl

/-- So does an instruction that raises one. -/
theorem step_of_execFault (hs : Fetches s) (h : fetchInstr (afterFetch s 0) = .ok i t)
    (he : exec i t = .next (t.withFault f)) : step s = .next (t.withFault f) := by
  rw [step_of_fetches hs, fetchExecute, h]
  show Answer.andThen (exec i t) afterExec = _
  rw [he]
  rfl

/-- An unused byte ends the step with its DecodeError, whether or not EXTRA_DECODE_ERRORS lists it too. -/
theorem step_unused (hs : Fetches s) (h : Fetched s [op]) (hi : (i, op) ∈ unusedRows) :
    step s = .next ((afterFetch s 1).withFault (.decodeError s.regs.pc op)) := by
  by_cases hextra : op ∈ s.extra.ops
  · exact step_of_fetchError hs (fetchInstr_extra h hextra)
  · refine step_of_execFault hs (fetchInstr_unused hi h hextra) ?_
    rw [exec_unused hi, afterFetch, State.setPc_regs_pc, BitVec.ofNat_eq_ofNat, BitVec.add_sub_cancel]

/-- Settles O14, by where the fetch stops: at one of its three bytes, at one of the two checks against
EXTRA_DECODE_ERRORS, at the decoder's refusal of STOP, or, for an unused byte, in the instruction itself. -/
theorem fetchFaultsKeepTheStateReached : Obligations.FetchFaultsKeepTheStateReached := by
  intro s hs
  refine ⟨fun f hf => ?opcode, fun op h hextra => ?extraOp, fun op f h hextra hlen hf => ?operand1,
    fun op b f h hextra hlen hf => ?operand2, fun b h hextra hsub => ?extraSub, fun u h hextra hu => ?stop,
    fun op hop h => ?unused⟩
  case opcode =>
    rw [step_of_fetchError hs (fetchInstr_opcodeFault hf), afterFetch_zero]
    rfl
  case extraOp => exact step_of_fetchError hs (fetchInstr_extra h hextra)
  case operand1 => exact step_of_fetchError hs (fetchInstr_operandFault h hextra (fetchOperands_errorFirst hlen hf))
  case operand2 =>
    have hfetch := fetchOperands_errorSecond hlen (busRead_operand h) hf
    exact step_of_fetchError hs (fetchInstr_operandFault h hextra hfetch)
  case extraSub =>
    exact step_of_fetchError hs ((fetchInstr_twoBytes h hextra rfl).trans (decodeFetched_extra hsub))
  case stop => exact step_of_fetchError hs ((fetchInstr_twoBytes h hextra rfl).trans (decodeFetched_stop hu))
  case unused =>
    obtain ⟨⟨i, _⟩, hi, rfl⟩ := List.mem_map.1 (show op ∈ unusedRows.map Prod.snd from hop)
    exact step_unused hs h hi

end Sys2Proof.Machine
end

section
/-! PROOFS. The Timer and the joypad: their advance, their registers on the bus and the host's key events (60_exceptions.md
R420 to R424, R450 to R454). -/

namespace Sys2Proof.Machine

variable {s : State}

/-! The Timer's advance (R420 to R422). -/

/-- The increments owed by `cycles` carry TIMA past 0xFF. -/
def Timer.overflows (t : Timer) (cycles : Nat) : Bool :=
  t.enabled && decide (0xFF < t.tima.toNat + t.increments cycles)

/-- The Timer after `cycles`. -/
def Timer.advance (t : Timer) (cycles : Nat) : Timer :=
  { t with
    divc := BitVec.ofNat 16 (t.divc.toNat + cycles)
    tima := if t.enabled then
        if 0xFF < t.tima.toNat + t.increments cycles then BitVec.ofNat 8 (t.tma.toNat + (t.increments cycles - 1))
        else BitVec.ofNat 8 (t.tima.toNat + t.increments cycles)
      else t.tima }

/-- TimerUpdate as one update of the Timer and IF, each a function of the Timer. -/
theorem timerUpdate_eq_advance (n : Nat) (s : State) : timerUpdate n s =
    { s with timer := s.timer.advance n, ifr := s.ifr ||| if s.timer.overflows n then 0x04 else 0x00 } := by
  cases hen : s.timer.enabled
  · simp [timerUpdate, Timer.advance, Timer.overflows, hen]
  · by_cases hover : 0xFF < s.timer.tima.toNat + s.timer.increments n
    · simp [timerUpdate, applyIncrements, requestIrq, Timer.advance, Timer.overflows, hen, hover, Interrupt.mask,
        Interrupt.bit]
    · simp [timerUpdate, applyIncrements, Timer.advance, Timer.overflows, hen, hover]

/-- TAC[1:0] selects the ratio of R421. -/
theorem Timer.two_pow_shift (t : Timer) : 2 ^ t.shift = [1024, 16, 64, 256].getD (t.tac.toNat % 4) 0 := by
  unfold Timer.shift
  generalize t.tac = tac
  revert tac
  decide

theorem Timer.increments_eq (t : Timer) (n : Nat) : t.increments n =
    (t.divc.toNat + n) / [1024, 16, 64, 256].getD (t.tac.toNat % 4) 0 -
      t.divc.toNat / [1024, 16, 64, 256].getD (t.tac.toNat % 4) 0 := by
  rw [Timer.increments, Nat.shiftRight_eq_div_pow, Nat.shiftRight_eq_div_pow, Timer.two_pow_shift]

/-- Settles O29: the three cases of the enable and the sum. -/
theorem timerCountsEveryMultiple : Obligations.TimerCountsEveryMultiple := by
  intro s t ratio n
  have hn : s.timer.increments t = n := s.timer.increments_eq t
  refine ⟨_, _, _, timerUpdate_eq_advance t s, BitVec.toNat_ofNat _ _, fun hoff => ?off, fun hon hle => ?counts,
    fun hon hgt => ?overflows⟩
  case off =>
    have hen : s.timer.enabled = false := hoff
    simp [Timer.overflows, hen]
  case counts =>
    have hen : s.timer.enabled = true := hon
    have hlt : ¬ 0xFF < s.timer.tima.toNat + n := by omega
    simp only [Timer.overflows, hen, hn, if_true, if_neg hlt, decide_eq_false hlt]
    exact ⟨Nat.mod_eq_of_lt (by omega), BitVec.or_zero⟩
  case overflows =>
    have hen : s.timer.enabled = true := hon
    simp only [Timer.overflows, hen, hn, if_true, if_pos hgt, decide_eq_true hgt]
    exact ⟨BitVec.toNat_ofNat _ _, rfl⟩

/-- Settles O30: one row of the Timer's handlers for each address. -/
theorem timerRegistersOnTheBus : Obligations.TimerRegistersOnTheBus := by
  intro s v
  refine ⟨⟨_, rfl, hiByte_toNat s.timer.divc⟩, rfl, rfl, rfl, rfl, rfl, ⟨_, rfl, ?tacRead⟩, _, rfl, ?tacWrite⟩
  case tacRead => exact BitVec.toNat_setWidth_of_le (by decide : 3 ≤ 8)
  case tacWrite => exact BitVec.toNat_setWidth _ _

/-! The joypad register (R453, R454). -/

/-- The selector's high nibble with one nibble of the key latch under it. -/
theorem nibbles_toNat (hi lo : Byte) (h : lo.toNat < 16) :
    ((hi &&& 0xF0) ||| lo).toNat = hi.toNat / 16 * 16 + lo.toNat := by
  have hshift : (hi &&& 0xF0).toNat = (hi.toNat / 16) <<< 4 := by
    rw [and_highNibble_toNat, Nat.shiftLeft_eq]
  rw [BitVec.toNat_or, hshift, ← Nat.shiftLeft_add_eq_or_of_lt h, Nat.shiftLeft_eq]

/-- Settles O28: the read by the two selector bits, the write bit by bit. -/
theorem joypadRegisterSelectsAKeyNibble : Obligations.JoypadRegisterSelectsAKeyNibble := by
  intro s v
  have hdirections : (s.joy.keys >>> 4).toNat = s.joy.keys.toNat / 16 := by
    rw [BitVec.toNat_ushiftRight, Nat.shiftRight_eq_div_pow]
  have hactions : (s.joy.keys &&& 0x0F).toNat = s.joy.keys.toNat % 16 :=
    (BitVec.toNat_and _ _).trans (Nat.and_two_pow_sub_one_eq_mod _ 4)
  have hlt := s.joy.keys.isLt
  refine ⟨⟨joypadRead s.joy, rfl, fun h4 => ?directions, fun h4 h5 => ?actions, fun h4 h5 => ?selector⟩, _, rfl,
    fun k hk => ?write⟩
  case directions =>
    rw [joypadRead, if_pos h4, ← hdirections]
    exact nibbles_toNat _ _ (by omega)
  case actions =>
    rw [joypadRead, if_neg (by simp [h4]), if_pos h5, ← hactions]
    exact nibbles_toNat _ _ (by omega)
  case selector => rw [joypadRead, if_neg (by simp [h4]), if_neg (by simp [h5])]
  case write =>
    have hmask : ∀ k, k < 8 → (0xCF#8).getLsbD k = decide (¬(k = 4 ∨ k = 5)) ∧
        (0x30#8).getLsbD k = decide (k = 4 ∨ k = 5) := by decide
    obtain ⟨hkept, hset⟩ := hmask k hk
    show ((s.joy.jsel &&& 0xCF#8) ||| (v &&& 0x30#8)).getLsbD k = _
    rw [BitVec.getLsbD_or, BitVec.getLsbD_and, BitVec.getLsbD_and, hkept, hset]
    by_cases hsel : k = 4 ∨ k = 5 <;> simp [hsel]

/-! Key events (R450 to R452). -/

theorem Key.bit_toNat (k : Key) : k.bit.toNat = Spec.keyBit k := by cases k <;> rfl

/-- Settles O5; the invariant reads neither the key latch nor IF. -/
theorem keyEventsKeepTheInvariant : Obligations.KeyEventsKeepTheInvariant := by
  intro s k
  refine ⟨⟨_, rfl, fun j hj => ?down⟩, ⟨_, rfl, fun j hj => ?up⟩, fun h => ⟨h.congr, h.congr⟩⟩
  case down =>
    rw [← k.bit_toNat]
    exact bitSet_clearBit s.joy.keys k.bit j hj
  case up =>
    rw [← k.bit_toNat]
    exact bitSet_setBit s.joy.keys k.bit j hj

end Sys2Proof.Machine
end

section
/-! PROOFS. The mode machine's transitions and requests, and a write of LCDC (60_exceptions.md R430 to R434, R438). -/

namespace Sys2Proof.Machine

variable {s : State}

/-! One transition as one update of the PPU and IF (R431 to R434). -/

/-- The STAT request of R432 and R434, if it is made. -/
def statRequest (made : Bool) : Byte := if made then 0x02 else 0x00

theorem or_statRequest (made : Bool) (v : Byte) :
    (if made then v ||| Interrupt.stat.mask else v) = v ||| statRequest made := by
  cases made
  · exact BitVec.or_zero.symm
  · rfl

/-- EnterMode of a mode that draws nothing (R432). -/
theorem enterMode_of_ne_transfer {m : PpuMode} (hm : m ≠ .transfer) (s : State) : enterMode m s =
    { s with ppu := { s.ppu with mode := m }, ifr := s.ifr ||| statRequest (s.ppu.modeEnable m) } := by
  rw [enterMode_eq, if_neg hm, or_statRequest]

theorem enterMode_transfer (s : State) :
    enterMode .transfer s = { s with ppu := renderScanline { s.ppu with mode := .transfer } } := by
  rw [enterMode_eq]
  rfl

theorem compareLY_eq (s : State) : compareLY s =
    { s with ppu := { s.ppu with coinc := decide (s.ppu.ly = s.ppu.lyc) }
             ifr := s.ifr ||| statRequest (decide (s.ppu.ly = s.ppu.lyc) && s.ppu.staten.getLsbD 3) } := by
  rw [← or_statRequest]
  unfold compareLY requestIrq Ppu.lycEnable
  dsimp only
  split <;> rfl

theorem modeEnds_oamScan (h : s.ppu.mode = .oamScan) : modeEnds s = enterMode .transfer s := by rw [modeEnds, h]

theorem modeEnds_transfer (h : s.ppu.mode = .transfer) : modeEnds s = enterMode .hblank s := by rw [modeEnds, h]

theorem modeEnds_hblank (h : s.ppu.mode = .hblank) (hly : s.ppu.ly + 1 ≠ 144) :
    modeEnds s = enterMode .oamScan (compareLY (setLY (s.ppu.ly + 1) s)) := by
  rw [modeEnds, h]
  refine if_neg ?_
  rw [compareLY_eq]
  exact hly

/-- The last visible line is followed by V-Blank (R433). -/
theorem modeEnds_hblank_last (h : s.ppu.mode = .hblank) (hly : s.ppu.ly + 1 = 144) :
    modeEnds s = requestIrq .vblank (enterMode .vblank (compareLY (setLY 144 s))) := by
  rw [modeEnds, h, ← hly]
  refine if_pos ?_
  rw [compareLY_eq]
  exact hly

theorem modeEnds_vblank (h : s.ppu.mode = .vblank) (hly : s.ppu.ly ≠ 153) :
    modeEnds s = compareLY (setLY (s.ppu.ly + 1) s) := by
  rw [modeEnds, h]
  exact if_neg (by bv_omega)

theorem modeEnds_vblank_last (h : s.ppu.mode = .vblank) (hly : s.ppu.ly = 153) :
    modeEnds s = enterMode .oamScan (compareLY (setLY 0 s)) := by
  rw [modeEnds, h]
  exact if_pos (by rw [hly]; rfl)

/-- Settles O34: each transition is a compare, an entry or both, and each of these is one update. -/
theorem modeTransitionsRequestTheirInterrupts : Obligations.ModeTransitionsRequestTheirInterrupts := by
  intro s up statIf
  refine ⟨fun h => ?_, fun h => ?_, fun h hly => ?_, fun h hly => ?_, fun h hly => ?_, fun h hly => ?_⟩
  · rw [modeEnds_oamScan h, enterMode_transfer]
  · rw [modeEnds_transfer h, enterMode_of_ne_transfer (by decide)]
    rfl
  · rw [modeEnds_hblank h hly, enterMode_of_ne_transfer (by decide), compareLY_eq]
    rfl
  · rw [modeEnds_hblank_last h hly, enterMode_of_ne_transfer (by decide), compareLY_eq]
    rfl
  · rw [modeEnds_vblank h hly, compareLY_eq]
    rfl
  · rw [modeEnds_vblank_last h hly, enterMode_of_ne_transfer (by decide), compareLY_eq]
    rfl

/-- Settles O35, by the write's case and the mode it restarts in. -/
theorem displayToggleRestartsTheFrame : Obligations.DisplayToggleRestartsTheFrame := by
  intro s v n
  have hstore : busStore s 0xFF40 v = .ok (lcdcWrite v s) := rfl
  refine ⟨fun hsame => ?same, fun hv hs => ?on, fun hv hs => ?off, fun hoff => ppuUpdate_off hoff n⟩ <;>
    rw [hstore, lcdcWrite_eq]
  case same => exact congrArg Except.ok (if_pos hsame)
  case on =>
    rw [if_neg (by rw [Ppu.displayOn, hv, hs]; decide)]
    simp only [hv, if_true, or_statRequest]
    rfl
  case off =>
    rw [if_neg (by rw [Ppu.displayOn, hv, hs]; decide)]
    simp only [hv, or_statRequest]
    rfl

end Sys2Proof.Machine
end

section
/-! PROOFS. What the renderer draws from: nothing of the sprites, and nothing of the mode machine but LY (60_exceptions.md
R440 to R447). -/

namespace Sys2Proof.Machine

/-- `p` and `q` agree on what the renderer draws from: all but OAM, the object palettes and LCDC bits 1 and 2 (R447). -/
structure SameSource (p q : Ppu) : Prop where
  lcdc : ∀ k, k < 8 → k ≠ 1 → k ≠ 2 → q.lcdc.getLsbD k = p.lcdc.getLsbD k := by exact fun _ _ _ _ => rfl
  vram : q.vram = p.vram := by rfl
  bgp : q.bgp = p.bgp := by rfl
  scroll : q.scx = p.scx ∧ q.scy = p.scy ∧ q.wx = p.wx ∧ q.wy = p.wy := by exact ⟨rfl, rfl, rfl, rfl⟩

theorem SameSource.lineColours {p q : Ppu} (h : SameSource p q) (y : Nat) :
    Machine.lineColours q y 160 0 false = Machine.lineColours p y 160 0 false :=
  lineColours_congr y h.vram (h.lcdc 3 (by decide) (by decide) (by decide)) (h.lcdc 4 (by decide) (by decide) (by decide))
    (h.lcdc 5 (by decide) (by decide) (by decide)) (h.lcdc 6 (by decide) (by decide) (by decide)) h.scroll 160 0 false

theorem SameSource.lineShades {p q : Ppu} (h : SameSource p q) (y : Nat) :
    Machine.lineShades q y = Machine.lineShades p y := by
  rw [Machine.lineShades, h.lcdc 0 (by decide) (by decide) (by decide), h.lineColours, h.bgp]
  rfl

theorem SameSource.linePriority {p q : Ppu} (h : SameSource p q) (y : Nat) :
    Machine.linePriority q y = Machine.linePriority p y := by
  rw [Machine.linePriority, h.lcdc 0 (by decide) (by decide) (by decide), h.lineColours]
  rfl

/-- The screens drawn from the same source over the same screen at the same line are the same. -/
theorem SameSource.render {p q : Ppu} (h : SameSource p q) (ly : q.ly = p.ly := by rfl)
    (screen : q.fb = p.fb ∧ q.fbInit = p.fbInit ∧ q.bgpri = p.bgpri := by exact ⟨rfl, rfl, rfl⟩) :
    (renderScanline q).fb = (renderScanline p).fb ∧ (renderScanline q).bgpri = (renderScanline p).bgpri := by
  obtain ⟨hfb, hinit, hpri⟩ := screen
  unfold renderScanline
  rw [ly]
  split
  · exact ⟨by rw [h.lineShades, hfb, hinit], by rw [h.linePriority, hpri]⟩
  · exact ⟨hfb, hpri⟩

/-- Settles O38: what the two PPUs differ in is no part of the renderer's source. -/
theorem spritesNeverReachTheScreen : Obligations.SpritesNeverReachTheScreen :=
  fun _ _ _ _ _ hlcdc => SameSource.render { lcdc := hlcdc }

end Sys2Proof.Machine
end

section
/-! PROOFS. PpuUpdate is additive in its cycles, since pcnt plays no part in a transition (60_exceptions.md R430, R431,
R437). -/

namespace Sys2Proof.Machine

variable {s : State}

theorem renderScanline_pcnt (p : Ppu) (k : Word) :
    renderScanline { p with pcnt := k } = { renderScanline p with pcnt := k } := by
  obtain ⟨hfb, hpri⟩ := SameSource.render (p := p) (q := { p with pcnt := k }) {}
  rw [renderScanline_eq { p with pcnt := k }, hfb, hpri, renderScanline_eq p]

/-- `h` changes nothing that a transition reads, and a transition changes nothing that `h` writes. -/
structure BesidePpu (h : State → State) : Prop where
  position : ∀ s, (h s).ppu.mode = s.ppu.mode ∧ (h s).ppu.ly = s.ppu.ly
  enter : ∀ m s, enterMode m (h s) = h (enterMode m s)
  compare : ∀ v s, compareLY (setLY v (h s)) = h (compareLY (setLY v s))
  vblank : ∀ s, requestIrq .vblank (h s) = h (requestIrq .vblank s)

theorem BesidePpu.modeEnds {h : State → State} (hb : BesidePpu h) (s : State) :
    Machine.modeEnds (h s) = h (Machine.modeEnds s) := by
  obtain ⟨hmode, hly⟩ := hb.position s
  cases hm : s.ppu.mode
  case oamScan => rw [modeEnds_oamScan hm, modeEnds_oamScan (hmode.trans hm), hb.enter]
  case transfer => rw [modeEnds_transfer hm, modeEnds_transfer (hmode.trans hm), hb.enter]
  case hblank =>
    by_cases hlast : s.ppu.ly + 1 = 144
    · rw [modeEnds_hblank_last hm hlast, modeEnds_hblank_last (hmode.trans hm) (hly.symm ▸ hlast), hb.compare, hb.enter,
        hb.vblank]
    · rw [modeEnds_hblank hm hlast, modeEnds_hblank (hmode.trans hm) (hly.symm ▸ hlast), hly, hb.compare, hb.enter]
  case vblank =>
    by_cases hlast : s.ppu.ly = 153
    · rw [modeEnds_vblank_last hm hlast, modeEnds_vblank_last (hmode.trans hm) (hly.trans hlast), hb.compare, hb.enter]
    · rw [modeEnds_vblank hm hlast, modeEnds_vblank (hmode.trans hm) (hly.symm ▸ hlast), hly, hb.compare]

theorem setPcnt_beside (k : Nat) : BesidePpu (setPcnt k) where
  position _ := ⟨rfl, rfl⟩
  enter m s := by
    by_cases hm : m = .transfer
    · subst hm
      rw [enterMode_transfer, enterMode_transfer]
      exact congrArg (fun p => { s with ppu := p }) (renderScanline_pcnt { s.ppu with mode := .transfer } _)
    · rw [enterMode_of_ne_transfer hm, enterMode_of_ne_transfer hm]
      rfl
  compare v s := by
    rw [compareLY_eq, compareLY_eq]
    rfl
  vblank _ := rfl

/-- A run overwrites the counter that it finds. -/
theorem ppuRun_setPcnt (k p : Nat) (s : State) : ppuRun p (setPcnt k s) = ppuRun p s := by
  refine ppuRun_induct (P := fun p s => ppuRun p (setPcnt k s) = ppuRun p s) ?short ?long p s
  case short =>
    intro p s hp
    rw [ppuRun_short hp, ppuRun_short (s := setPcnt k s) hp]
    rfl
  case long =>
    intro p s ih
    rw [ppuRun_long, ← ih, ← (setPcnt_beside k).modeEnds, ← ppuRun_long]
    rfl

/-- A run of p + q cycles is one of p and then one of q from where the first left off. -/
theorem ppuRun_add (p q : Nat) (s : State) :
    ppuRun (p + q) s = ppuRun ((ppuRun p s).ppu.pcnt.toNat + q) (ppuRun p s) := by
  refine ppuRun_induct (P := fun p s => ppuRun (p + q) s = ppuRun ((ppuRun p s).ppu.pcnt.toNat + q) (ppuRun p s))
    ?short ?long p s
  case short =>
    intro p s hp
    have hbound := s.ppu.mode.length_bounds
    have hpcnt : (setPcnt p s).ppu.pcnt.toNat = p := Nat.mod_eq_of_lt (by omega)
    rw [ppuRun_short hp, hpcnt, ppuRun_setPcnt]
  case long =>
    intro p s ih
    rw [Nat.add_assoc, ppuRun_long, ppuRun_long, ih]

theorem ppuUpdate_displayOn (n : Nat) (s : State) : (ppuUpdate n s).ppu.displayOn = s.ppu.displayOn := by
  obtain ⟨_, _, _, _, _, _, _, -, h⟩ := ppuUpdate_advance n s
  rw [h]
  rfl

/-- Settles O32: with the display on it is the additivity of the loop. -/
theorem ppuUpdateComposes : Obligations.PpuUpdateComposes := by
  intro a b s
  have hkept := ppuUpdate_displayOn a s
  cases hon : s.ppu.displayOn
  · rw [ppuUpdate_off hon, ppuUpdate_off hon, ppuUpdate_off hon]
  · rw [ppuUpdate_on (hkept.trans hon), ppuUpdate_on hon, ppuUpdate_on hon, ← Nat.add_assoc, ppuRun_add]

end Sys2Proof.Machine
end

section
/-! PROOFS. Where the PPU stands in the frame after any number of cycles (60_exceptions.md R431, R433, R435). -/

namespace Sys2Proof.Machine

variable {s : State}

/-- The cycles from the start of a line to the start of the mode (R431). -/
def PpuMode.start : PpuMode → Nat
  | .oamScan => 0
  | .transfer => 80
  | .hblank => 252
  | .vblank => 0

/-- The cycles from the start of a frame to the start of the PPU's mode. -/
def Ppu.frameCycle (p : Ppu) : Nat := 456 * p.ly.toNat + p.mode.start

/-- A mode lies inside its line, so inside its frame. -/
theorem frameCycle_bounds {p : Ppu} (h : p.LineLegal) : p.mode.start + p.mode.length ≤ 456 ∧ p.ly.toNat ≤ 153 := by
  refine ⟨?_, h.1⟩
  cases p.mode <;> decide

/-- Every transition leads to the start of the mode that follows in the frame (R431). -/
theorem frameCycle_modeEnds (h : s.ppu.LineLegal) :
    (modeEnds s).ppu.frameCycle = (s.ppu.frameCycle + s.ppu.mode.length) % 70224 := by
  obtain ⟨hly, hvblank⟩ := h
  obtain ⟨hpos, -, -⟩ := modeEnds_position s
  obtain ⟨hmode', hly'⟩ := Prod.ext_iff.1 hpos
  simp only at hmode' hly'
  have hsucc : (s.ppu.ly + 1).toNat = s.ppu.ly.toNat + 1 := by bv_omega
  unfold Ppu.frameCycle
  rw [hmode', hly']
  cases hm : s.ppu.mode
  case oamScan | transfer =>
    simp only [nextPosition, PpuMode.start, PpuMode.length]
    omega
  case hblank =>
    have hlow : s.ppu.ly.toNat < 144 := by simpa [hm] using hvblank
    simp only [nextPosition, hsucc, PpuMode.length]
    split <;> simp only [PpuMode.start] <;> omega
  case vblank =>
    have hhigh : 144 ≤ s.ppu.ly.toNat := by simpa [hm] using hvblank
    simp only [nextPosition, PpuMode.length]
    split
    · next hwrap =>
      have hlast : s.ppu.ly.toNat = 153 := by bv_omega
      simp only [hlast, PpuMode.start]
      rfl
    · next hwrap =>
      have hne : s.ppu.ly.toNat ≠ 153 := by bv_omega
      simp only [hsucc, PpuMode.start]
      omega

/-- The mode that has run `p` cycles, by how far into its line that is (R431). -/
theorem linePosition_mode {m : PpuMode} {line p : Nat} (h : m = .vblank ↔ 144 ≤ line) (hp : p < m.length) :
    Spec.linePosition line (m.start + p) = (m, p) := by
  unfold Spec.linePosition
  cases m
  case vblank => rw [if_pos (h.1 rfl)]; exact congrArg _ (Nat.zero_add p)
  all_goals rw [if_neg fun hge => nomatch h.2 hge]
  case oamScan =>
    have hin : PpuMode.oamScan.start + p < 80 := (Nat.zero_add p).symm ▸ hp
    rw [if_pos hin]
    exact congrArg _ (Nat.zero_add p)
  case transfer =>
    have hlo : ¬ PpuMode.transfer.start + p < 80 := by simp only [PpuMode.start]; omega
    have hhi : PpuMode.transfer.start + p < 252 := Nat.add_lt_add_left hp 80
    rw [if_neg hlo, if_pos hhi]
    exact congrArg _ (Nat.add_sub_cancel_left 80 p)
  case hblank =>
    have hlo : ¬ PpuMode.hblank.start + p < 252 := by simp only [PpuMode.start]; omega
    rw [if_neg (by omega), if_neg hlo]
    exact congrArg _ (Nat.add_sub_cancel_left 252 p)

/-- `s` is where the frame's timing puts it after `t` cycles from the start of a frame (R435). -/
def PositionAt (t : Nat) (s : State) : Prop :=
  s.ppu.ly.toNat = t % 70224 / 456 ∧
    (s.ppu.mode, s.ppu.pcnt.toNat) = Spec.linePosition (t % 70224 / 456) (t % 70224 % 456)

/-- Inside a mode the position is the mode's start and the cycles since. -/
theorem positionAt_setPcnt {p : Nat} (h : s.ppu.LineLegal) (hp : p < s.ppu.mode.length) :
    PositionAt (s.ppu.frameCycle + p) (setPcnt p s) := by
  obtain ⟨hline, hly⟩ := frameCycle_bounds h
  have hpcnt : (setPcnt p s).ppu.pcnt.toNat = p := Nat.mod_eq_of_lt (by omega)
  have hdiv : (s.ppu.frameCycle + p) % 70224 / 456 = s.ppu.ly.toNat := by unfold Ppu.frameCycle; omega
  have hmod : (s.ppu.frameCycle + p) % 70224 % 456 = s.ppu.mode.start + p := by unfold Ppu.frameCycle; omega
  unfold PositionAt
  rw [hdiv, hmod, hpcnt, linePosition_mode h.2 hp]
  exact ⟨rfl, rfl⟩

theorem ppuRun_position (p : Nat) (s : State) (h : s.ppu.LineLegal) :
    PositionAt (s.ppu.frameCycle + p) (ppuRun p s) := by
  revert h
  refine ppuRun_induct (P := fun p s => s.ppu.LineLegal → PositionAt (s.ppu.frameCycle + p) (ppuRun p s)) ?short ?long p s
  case short =>
    intro p s hp h
    rw [ppuRun_short hp]
    exact positionAt_setPcnt h hp
  case long =>
    intro p s ih h
    have hpos := ih (modeEnds_lineLegal h)
    rw [frameCycle_modeEnds h] at hpos
    unfold PositionAt at hpos ⊢
    rw [Nat.mod_add_mod, Nat.add_assoc] at hpos
    rw [ppuRun_long]
    exact hpos

theorem statRequest_bit0 (made : Bool) (v : Byte) : (v ||| statRequest made).getLsbD 0 = v.getLsbD 0 := by
  cases made <;> simp [statRequest]

theorem enterMode_ifr_bit0 (m : PpuMode) (s : State) : (enterMode m s).ifr.getLsbD 0 = s.ifr.getLsbD 0 := by
  rw [enterMode_eq, or_statRequest]
  exact statRequest_bit0 _ _

theorem compareLY_ifr_bit0 (v : Byte) (s : State) : (compareLY (setLY v s)).ifr.getLsbD 0 = s.ifr.getLsbD 0 := by
  rw [compareLY_eq]
  exact statRequest_bit0 _ _

/-- A transition requests V-Blank exactly where line 144 begins (R433). -/
theorem modeEnds_vblankRequest (s : State) : (modeEnds s).ifr.getLsbD 0 = true ↔
    s.ifr.getLsbD 0 = true ∨ s.ppu.mode = .hblank ∧ s.ppu.ly + 1 = 144 := by
  cases hm : s.ppu.mode
  case oamScan => rw [modeEnds_oamScan hm, enterMode_ifr_bit0]; simp
  case transfer => rw [modeEnds_transfer hm, enterMode_ifr_bit0]; simp
  case hblank =>
    by_cases hlast : s.ppu.ly + 1 = 144
    · have hrequest : ∀ v : Byte, (v ||| Interrupt.vblank.mask).getLsbD 0 = true := by decide
      rw [modeEnds_hblank_last hm hlast]
      exact iff_of_true (hrequest _) (.inr ⟨rfl, hlast⟩)
    · rw [modeEnds_hblank hm hlast, enterMode_ifr_bit0, compareLY_ifr_bit0]
      exact (or_iff_left fun h => hlast h.2).symm
  case vblank =>
    by_cases hlast : s.ppu.ly = 153
    · rw [modeEnds_vblank_last hm hlast, enterMode_ifr_bit0, compareLY_ifr_bit0]; simp
    · rw [modeEnds_vblank hm hlast, compareLY_ifr_bit0]; simp

/-- The `p` cycles after frame cycle `c` pass the start of a line 144, of the frame that `c` is in or of the next. -/
def PassesVblank (c p : Nat) : Prop := c < 65664 ∧ 65664 ≤ c + p ∨ 65664 + 70224 ≤ c + p

/-- A mode of a visible line ends at line 144 at the latest, and there exactly where V-Blank is entered. -/
theorem frameCycle_visible {p : Ppu} (h : p.LineLegal) (hm : p.mode ≠ .vblank) : p.frameCycle + p.mode.length ≤ 65664 ∧
    (p.mode = .hblank ∧ p.ly + 1 = 144 ↔ p.frameCycle + p.mode.length = 65664) := by
  have hlow : p.ly.toNat < 144 := Nat.lt_of_not_le fun hge => hm (h.2.2 hge)
  have hlast : p.ly + 1 = 144 ↔ p.ly.toNat = 143 := by bv_omega
  rw [hlast]
  unfold Ppu.frameCycle
  cases hmode : p.mode
  case vblank => exact absurd hmode hm
  all_goals
    simp only [PpuMode.start, PpuMode.length, reduceCtorEq, false_and, true_and, false_iff]
    omega

theorem frameCycle_vblank {p : Ppu} (h : p.LineLegal) (hm : p.mode = .vblank) :
    65664 ≤ p.frameCycle ∧ p.frameCycle + p.mode.length ≤ 70224 := by
  obtain ⟨hly, hvblank⟩ := h
  have hhigh := hvblank.1 hm
  rw [Ppu.frameCycle, hm]
  simp only [PpuMode.start, PpuMode.length]
  omega

theorem not_passesVblank {p : Nat} (h : s.ppu.LineLegal) (hp : p < s.ppu.mode.length) :
    ¬ PassesVblank s.ppu.frameCycle p := by
  unfold PassesVblank
  by_cases hm : s.ppu.mode = .vblank
  · have := frameCycle_vblank h hm
    omega
  · have := frameCycle_visible h hm
    omega

/-- The transition at frame cycle 65664 is the one into V-Blank, and the one at 70224 the wrap. -/
theorem passesVblank_modeEnds (p : Nat) (h : s.ppu.LineLegal) :
    (s.ppu.mode = .hblank ∧ s.ppu.ly + 1 = 144) ∨ PassesVblank (modeEnds s).ppu.frameCycle p ↔
      PassesVblank s.ppu.frameCycle (s.ppu.mode.length + p) := by
  have hbound := s.ppu.mode.length_bounds
  rw [frameCycle_modeEnds h]
  unfold PassesVblank
  by_cases hm : s.ppu.mode = .vblank
  · have hcycle := frameCycle_vblank h hm
    rw [or_iff_right fun hand => absurd (hm.symm.trans hand.1) (by decide)]
    omega
  · obtain ⟨hle, hentry⟩ := frameCycle_visible h hm
    rw [hentry]
    omega

theorem ppuRun_vblankRequest (p : Nat) (s : State) (h : s.ppu.LineLegal) : (ppuRun p s).ifr.getLsbD 0 = true ↔
    s.ifr.getLsbD 0 = true ∨ PassesVblank s.ppu.frameCycle p := by
  revert h
  refine ppuRun_induct (P := fun p s => s.ppu.LineLegal → ((ppuRun p s).ifr.getLsbD 0 = true ↔
    s.ifr.getLsbD 0 = true ∨ PassesVblank s.ppu.frameCycle p)) ?short ?long p s
  case short =>
    intro p s hp h
    rw [ppuRun_short hp]
    exact (or_iff_left (not_passesVblank h hp)).symm
  case long =>
    intro p s ih h
    rw [ppuRun_long, ih (modeEnds_lineLegal h), modeEnds_vblankRequest, or_assoc, passesVblank_modeEnds p h]

/-- Settles O33: a frame starts at frame cycle 0 on a legal line. -/
theorem ppuPositionFollowsTheFrame : Obligations.PpuPositionFollowsTheFrame := by
  intro s t ⟨hon, hly, hmode, hpcnt⟩
  have hlegal : s.ppu.LineLegal := by
    unfold Ppu.LineLegal
    rw [hly, hmode]
    decide
  have hstart : s.ppu.frameCycle = 0 := by rw [Ppu.frameCycle, hly, hmode]; rfl
  have hrun : ppuUpdate t s = ppuRun t s := by
    rw [ppuUpdate_on hon, hpcnt]
    exact congrArg (ppuRun · s) (Nat.zero_add t)
  obtain ⟨hline, hpos⟩ := ppuRun_position t s hlegal
  have hrequest := ppuRun_vblankRequest t s hlegal
  rw [hstart, Nat.zero_add, ← hrun] at hline hpos
  rw [hstart, ← hrun] at hrequest
  refine ⟨hline, hpos, hrequest.trans (or_congr_right ?_)⟩
  unfold PassesVblank
  omega

end Sys2Proof.Machine
end

section
/-! PROOFS. The advance of both devices (60_exceptions.md R405 to R407). -/

namespace Sys2Proof.Machine

variable {s : State}

/-- The state with the Timer replaced and more interrupts requested: what TimerUpdate does. -/
def State.withTimer (s : State) (timer : Timer) (request : Byte) : State :=
  { s with timer := timer, ifr := request ||| s.ifr }

theorem withTimer_beside (timer : Timer) (request : Byte) : BesidePpu fun s => s.withTimer timer request where
  position _ := ⟨rfl, rfl⟩
  enter m s := by
    rw [enterMode_eq, enterMode_eq, or_statRequest, or_statRequest]
    simp only [State.withTimer, BitVec.or_assoc]
  compare v s := by simp only [compareLY_eq, setLY, State.withTimer, BitVec.or_assoc]
  vblank s := by simp only [requestIrq, State.withTimer, BitVec.or_assoc]

/-- The PPU's advance and the Timer's commute. -/
theorem ppuUpdate_withTimer (n : Nat) (timer : Timer) (request : Byte) (s : State) :
    ppuUpdate n (s.withTimer timer request) = (ppuUpdate n s).withTimer timer request := by
  have hrun : ∀ p, ppuRun p (s.withTimer timer request) = (ppuRun p s).withTimer timer request := by
    intro p
    refine ppuRun_induct (P := fun p s => ppuRun p (s.withTimer timer request) = (ppuRun p s).withTimer timer request)
      ?short ?long p s
    case short =>
      intro p s hp
      rw [ppuRun_short hp, ppuRun_short (s := s.withTimer timer request) hp]
      rfl
    case long =>
      intro p s ih
      rw [ppuRun_long, ← ih, ← (withTimer_beside timer request).modeEnds, ← ppuRun_long]
      rfl
  cases hon : s.ppu.displayOn
  · rw [ppuUpdate_off hon, ppuUpdate_off (s := s.withTimer timer request) hon]
  · rw [ppuUpdate_on hon, ppuUpdate_on (s := s.withTimer timer request) hon]
    exact hrun _

/-- Requests of interrupts 0 to 2 together are a mask below 8. -/
theorem or_toNat_lt_eight {v w : Byte} (hv : v &&& 0xFC = 0) (hw : w.toNat < 8) : (v ||| w).toNat < 8 := by
  have hlow : ∀ v : Byte, v &&& 0xFC = 0 → v.toNat < 2 ^ 3 := by decide
  rw [BitVec.toNat_or]
  exact Nat.or_lt_two_pow (hlow v hv) hw

/-- Settles O31: the Timer and the PPU each update their own part, and requests to IF commute. -/
theorem devicesOnlyRequestInterrupts : Obligations.DevicesOnlyRequestInterrupts := by
  intro n s
  obtain ⟨mode, pcnt, ly, coinc, fb, bgpri, m, hm, hppu⟩ := ppuUpdate_advance n s
  have htimer : ∀ t, timerUpdate n t = t.withTimer (t.timer.advance n) (if t.timer.overflows n then 0x04 else 0x00) :=
    fun t => by rw [timerUpdate_eq_advance, BitVec.or_comm]; rfl
  have hcomm : ppuUpdate n (timerUpdate n s) = timerUpdate n (ppuUpdate n s) := by
    rw [htimer, htimer, ppuUpdate_withTimer, hppu]
  refine ⟨hcomm, ?_⟩
  rw [hcomm, timerUpdate_eq_advance, hppu]
  refine ⟨rfl, _, BitVec.or_assoc _ _ _, ?_⟩
  exact or_toNat_lt_eight hm (by split <;> decide)

end Sys2Proof.Machine
end

section
/-! PROOFS. What the renderer draws (60_exceptions.md R440 to R445). -/

namespace Sys2Proof.Machine

open Sys2Proof.Spec

variable {p : Ppu}

/-! One pixel (R440, R441). -/

/-- The tile data's index is TileAddr(t) - 0x8000, signed tile numbers counting from 0x9000 (R441). -/
theorem tileIndex_row (p : Ppu) (t : Byte) (k : Nat) :
    (((if p.lcdc.getLsbD 4 then 0x8000 + 16 * (t.toNat : Int) else 0x9000 + 16 * t.toInt) + 2 * (k : Int)) - 0x8000) =
      ((tileIndex p t + 2 * k : Nat) : Int) := by
  have hlow : -128 ≤ t.toInt := BitVec.le_toInt t
  unfold tileIndex
  split <;> omega

theorem colour_toNat (hi lo : Bool) : (BitVec.ofBool hi ++ BitVec.ofBool lo).toNat = 2 * hi.toNat + lo.toNat := by
  revert hi lo; decide

theorem pixel_toNat (p : Ppu) (map px py : Nat) : (pixel p map px py).toNat = pixelColour p (0x8000 + map) px py := by
  unfold pixel pixelColour
  simp only [colour_toNat, Nat.shiftRight_eq_div_pow, Nat.add_sub_cancel_left, add_sub_right_comm _ (1 : Int), tileIndex_row]
  rfl

/-! One line (R440, R443). -/

/-- The window has started at a column before x: in closed form, what the loop's latch holds at x (R443). -/
def windowBefore (p : Ppu) (y x : Nat) : Bool :=
  p.lcdc.getLsbD 5 && decide (p.wy.toNat ≤ y) && decide (7 ≤ p.wx.toNat ∧ p.wx.toNat < x + 7)

theorem windowBefore_zero (p : Ppu) (y : Nat) : windowBefore p y 0 = false := by
  have hnone : ¬(7 ≤ p.wx.toNat ∧ p.wx.toNat < 0 + 7) := by omega
  rw [windowBefore, decide_eq_false hnone, Bool.and_false]

theorem windowBefore_succ (p : Ppu) (y x : Nat) :
    (windowBefore p y x || windowStartsAt p y x) = windowBefore p y (x + 1) := by
  have hstep : (decide (7 ≤ p.wx.toNat ∧ p.wx.toNat < x + 7) || decide (p.wx.toNat = x + 7)) =
      decide (7 ≤ p.wx.toNat ∧ p.wx.toNat < x + 1 + 7) := by
    rw [← Bool.decide_or, decide_eq_decide]
    omega
  rw [windowBefore, windowStartsAt, ← Bool.and_or_distrib_left, hstep, windowBefore]

theorem lineColours_getElem (p : Ppu) (y n x i : Nat) (hi : i < (lineColours p y n x (windowBefore p y x)).length) :
    (lineColours p y n x (windowBefore p y x))[i] =
      if windowBefore p y (x + i + 1) then windowPixel p y (x + i) else backgroundPixel p y (x + i) := by
  induction n generalizing x i with
  | zero => exact absurd hi (Nat.not_lt_zero i)
  | succ n ih =>
    cases i with
    | zero => simp only [lineColours, windowBefore_succ, List.getElem_cons_zero, Nat.add_zero]
    | succ i =>
      simp only [lineColours, windowBefore_succ, List.getElem_cons_succ]
      rw [ih, Nat.add_right_comm x 1 i, Nat.add_assoc x i 1]

theorem mapBase_eq (select : Bool) : 0x8000 + mapBase select = if select then 0x9C00 else 0x9800 := by
  cases select <;> rfl

/-- The colour drawn at column x of line y (R440, R443). -/
theorem lineColours_toNat (p : Ppu) (y x : Nat) (hx : x < (lineColours p y 160 0 false).length) :
    (lineColours p y 160 0 false)[x].toNat = lineColour p y x := by
  have hget := lineColours_getElem p y 160 0 x (by rw [lineColours_length] at hx ⊢; exact hx)
  simp only [windowBefore_zero, Nat.zero_add] at hget
  have hcolumn : (7 ≤ p.wx.toNat ∧ p.wx.toNat < x + 1 + 7) ↔ (7 ≤ p.wx.toNat ∧ p.wx.toNat ≤ x + 7) := by omega
  have hwindow : windowBefore p y (x + 1) = true ↔
      p.lcdc.getLsbD 5 = true ∧ p.wy.toNat ≤ y ∧ 7 ≤ p.wx.toNat ∧ p.wx.toNat ≤ x + 7 := by
    simp only [windowBefore, Bool.and_eq_true, decide_eq_true_eq, and_assoc, hcolumn]
  rw [hget, lineColour]
  by_cases hwin : windowBefore p y (x + 1) = true
  · rw [if_pos hwin, if_pos (hwindow.1 hwin), windowPixel, pixel_toNat, mapBase_eq]
  · rw [if_neg hwin, if_neg (mt hwindow.2 hwin), backgroundPixel, pixel_toNat, mapBase_eq]

/-! Shades (R442). -/

theorem shade_eq (bgp : Byte) (c : BitVec 2) : shade bgp c = shadeOf bgp c.toNat := by
  have htable : ∀ d : BitVec 2, (match d with | 0 => 0xFF#8 | 1 => 0xAA | 2 => 0x55 | 3 => 0x00) =
      BitVec.ofNat 8 (255 - 85 * d.toNat) := by decide
  have hselect : ((bgp >>> (2 * c.toNat)).extractLsb' 0 2).toNat = bgp.toNat / 4 ^ c.toNat % 4 := by
    rw [BitVec.extractLsb'_toNat, BitVec.toNat_ushiftRight, Nat.shiftRight_zero, Nat.shiftRight_eq_div_pow, Nat.pow_mul]
  rw [shadeOf, ← hselect, ← htable]
  rfl

/-! The shades and the tags of a line (R444, R445). -/

theorem lineShades_on (hen : p.lcdc.getLsbD 0 = true) (y : Nat) :
    lineShades p y = (lineColours p y 160 0 false).map (shade p.bgp) := if_pos hen

theorem linePriority_on (hen : p.lcdc.getLsbD 0 = true) (y : Nat) :
    linePriority p y = (lineColours p y 160 0 false).map fun c => decide (c ≠ 0) := if_pos hen

theorem lineShades_off (hen : p.lcdc.getLsbD 0 = false) (y : Nat) : lineShades p y = List.replicate 160 0xFF :=
  if_neg (Bool.eq_false_iff.1 hen)

theorem linePriority_off (hen : p.lcdc.getLsbD 0 = false) (y : Nat) : linePriority p y = List.replicate 160 false :=
  if_neg (Bool.eq_false_iff.1 hen)

/-! The row of the line (R444, R445, R48). -/

theorem renderScanline_drawn (hly : p.ly.toNat < 144) : renderScanline p =
    { p with fb := Sparse.putRange p.fbInit p.fb (160 * p.ly.toNat) (lineShades p p.ly.toNat)
             bgpri := Sparse.putRange false p.bgpri (160 * p.ly.toNat) (linePriority p p.ly.toNat) } := if_pos hly

/-- The cells of another row lie outside the line's. -/
theorem renderScanline_otherRow {row x : Nat} (hly : p.ly.toNat < 144) (hx : x < 160) (hrow : row ≠ p.ly.toNat) :
    (renderScanline p).fbAt row x = p.fbAt row x ∧ (renderScanline p).bgpriAt row x = p.bgpriAt row x := by
  have hout : 160 * row + x < 160 * p.ly.toNat ∨ 160 * p.ly.toNat + 160 ≤ 160 * row + x := by omega
  rw [renderScanline_drawn hly]
  exact ⟨Sparse.get_putRange_outside _ _ _ (by rwa [lineShades_length]),
    Sparse.get_putRange_outside _ _ _ (by rwa [linePriority_length])⟩

theorem renderScanline_row {x : Nat} (hly : p.ly.toNat < 144) (hx : x < 160) (hfb : Sparse.wf p.fbInit (160 * 144) p.fb)
    (hpri : Sparse.wf false (160 * 144) p.bgpri) :
    (renderScanline p).fbAt p.ly.toNat x = (lineShades p p.ly.toNat)[x]'(by rwa [lineShades_length]) ∧
    (renderScanline p).bgpriAt p.ly.toNat x = (linePriority p p.ly.toNat)[x]'(by rwa [linePriority_length]) := by
  rw [renderScanline_drawn hly]
  exact ⟨Sparse.get_putRange_inside _ hfb.1 _ _ _, Sparse.get_putRange_inside _ hpri.1 _ _ _⟩

/-- Settles O37: another row's cells are not written; the line's own hold its shades and tags. -/
theorem rendererDrawsBackgroundAndWindow : Obligations.RendererDrawsBackgroundAndWindow := by
  intro p row x hly hx hfb hpri q
  refine ⟨renderScanline_eq p, renderScanline_otherRow hly hx, ?off, ?on⟩
  all_goals
    rintro rfl hen
    obtain ⟨hshade, htag⟩ := renderScanline_row hly hx hfb hpri
    rw [hshade, htag]
  case off => simp only [lineShades_off hen, linePriority_off hen, List.getElem_replicate, and_self]
  case on =>
    simp only [lineShades_on hen, linePriority_on hen, List.getElem_map, shade_eq, lineColours_toNat, decide_eq_true_eq,
      true_and]
    rw [← lineColours_toNat p _ x (by rwa [lineColours_length])]
    exact not_congr BitVec.toNat_inj.symm

end Sys2Proof.Machine
end

section
/-! PROOFS. The dispatch of interrupts (60_exceptions.md R408 to R413). -/

namespace Sys2Proof.Machine

open Sys2Proof.Spec

variable {s t : State} {i : Interrupt}

/-! The lowest pending interrupt (R408, R409). -/

theorem Interrupt.bit_toNat (i : Interrupt) : i.bit.toNat = number i := by cases i <;> rfl

theorem Interrupt.mask_eq (i : Interrupt) : i.mask = 1#8 <<< number i := by rw [Interrupt.mask, i.bit_toNat]

theorem Interrupt.vector_eq (i : Interrupt) : i.vector = BitVec.ofNat 16 (0x40 + 8 * number i) := by cases i <;> rfl

theorem enabledAndPending_iff (s : State) (i : Interrupt) : enabledAndPending s.ie s.ifr i = true ↔ Pending s i := by
  rw [enabledAndPending, bitOf, bitOf, i.bit_toNat, Bool.and_eq_true, Pending]

/-- The order of the search is the order of priority (R406). -/
theorem priorityOrder_split (i : Interrupt) :
    ∃ before after, [Interrupt.vblank, .stat, .timer, .serial, .joypad] = before ++ i :: after ∧
      ∀ j ∈ before, number j < number i := by
  cases i
  case vblank => exact ⟨[], _, rfl, by decide⟩
  case stat => exact ⟨[.vblank], _, rfl, by decide⟩
  case timer => exact ⟨[.vblank, .stat], _, rfl, by decide⟩
  case serial => exact ⟨[.vblank, .stat, .timer], _, rfl, by decide⟩
  case joypad => exact ⟨[.vblank, .stat, .timer, .serial], _, rfl, by decide⟩

theorem pendingInterrupt_of_lowest (h : Lowest s i) : pendingInterrupt s.ie s.ifr = some i := by
  obtain ⟨hi, hlower⟩ := h
  obtain ⟨before, after, horder, hbefore⟩ := priorityOrder_split i
  rw [pendingInterrupt, List.find?_eq_some_iff_append]
  refine ⟨(enabledAndPending_iff s i).2 hi, before, after, horder, fun j hj => ?_⟩
  rw [Bool.not_eq_true', ← Bool.not_eq_true, enabledAndPending_iff]
  exact hlower j (hbefore j hj)

theorem pendingInterrupt_of_none (h : ∀ i, ¬ Pending s i) : pendingInterrupt s.ie s.ifr = none :=
  List.find?_eq_none.2 fun i _ hi => h i ((enabledAndPending_iff s i).1 hi)

/-- No interrupt is pending exactly if IE and IF share none of bits 0 to 4. -/
theorem not_pending_iff (s : State) : (∀ i, ¬ Pending s i) ↔ s.ie &&& s.ifr &&& 0x1F = 0 := by
  have hbits : ∀ v : Byte, v &&& 0x1F = 0 ↔ ∀ k, k < 5 → v.getLsbD k = false := by decide
  have hpending : ∀ i, Pending s i ↔ (s.ie &&& s.ifr).getLsbD (number i) = true := fun i => by
    rw [BitVec.getLsbD_and, Bool.and_eq_true, Pending]
  simp only [hbits, hpending, Bool.not_eq_true]
  constructor
  · intro h k hk
    match k, hk with
    | 0, _ => exact h .vblank
    | 1, _ => exact h .stat
    | 2, _ => exact h .timer
    | 3, _ => exact h .serial
    | 4, _ => exact h .joypad
  · exact fun h i => h (number i) (by cases i <;> decide)

/-! The dispatch (R410). -/

theorem dispatchCheck_quiet (h : s.ime = false ∨ ∀ i, ¬ Pending s i) : dispatchCheck s = .next s := by
  unfold dispatchCheck
  rcases h with h | h
  · rw [h]; rfl
  · rw [pendingInterrupt_of_none h, ite_self]

theorem dispatchCheck_lowest (hime : s.ime = true) (h : Lowest s i) : dispatchCheck s = answer (dispatch i) s := by
  rw [dispatchCheck, if_pos hime, pendingInterrupt_of_lowest h]

/-- Dispatch(i) pushes PC from `dispatchBase`, then goes to the vector. -/
theorem dispatch_run (i : Interrupt) (s : State) :
    dispatch i s = (push16 s.regs.pc >>= fun _ => update (·.setPc i.vector)) (dispatchBase s i) := by
  rw [dispatchBase, ← i.mask_eq]
  rfl

theorem dispatchBase_memoryWf (h : s.MemoryWf) (i : Interrupt) : (dispatchBase s i).MemoryWf :=
  ⟨h.wram, h.hram, h.vram, h.oam, h.cram, h.rom, h.fb, h.bgpri⟩

/-- Settles O15, by whether an interrupt is taken and whether its push completes. -/
theorem dispatchTakesTheLowestPending : Obligations.DispatchTakesTheLowestPending := by
  intro s
  refine ⟨dispatchCheck_quiet, not_pending_iff s, fun i hime hi =>
    ⟨fun hw hhi hlo => ?completes, fun f t hf => ?faults⟩⟩ <;> rw [dispatchCheck_lowest hime hi]
  case completes =>
    obtain ⟨t, ht, heffect⟩ := push16_completes (dispatchBase_memoryWf hw i) (writeOk_of_sameBanks (.of_eq rfl) hhi)
      (writeOk_of_sameBanks (.of_eq rfl) hlo)
    refine ⟨t, heffect, ?_⟩
    rw [← i.vector_eq]
    exact answer_ok ((dispatch_run i s).trans (M.bind_ok ht))
  case faults => exact answer_error ((dispatch_run i s).trans (M.bind_error (push16_fault hf)))

end Sys2Proof.Machine
end

section
/-! PROOFS. The step: what it answers, how it ends, and runs of many steps (60_exceptions.md R401 to R405). -/

namespace Sys2Proof.Machine

open Sys2Proof.Spec

variable {s t u : State} {i : Instr} {op : Byte} {rest : List Byte}

/-! No part of a step answers anything but a next state. -/

theorem exec_next (i : Instr) (s : State) : ∃ t, exec i s = .next t := by
  by_cases hi : i ≠ .halt ∧ i ≠ .di ∧ i ≠ .ei ∧ i ≠ .reti
  · obtain ⟨m, hm, -⟩ := exec_shape i hi
    rw [hm]
    exact answer_next m s
  rcases halt_di_ei_reti hi with rfl | rfl | rfl | rfl
  case inr.inr.inr => exact answer_next returnFromInterrupt s
  all_goals exact ⟨_, rfl⟩

theorem dispatchCheck_next (s : State) : ∃ t, dispatchCheck s = .next t := by
  unfold dispatchCheck
  split
  · split
    · exact answer_next _ s
    · exact ⟨s, rfl⟩
  · exact ⟨s, rfl⟩

theorem afterExec_next (s : State) : ∃ t, afterExec s = .next t := by
  unfold afterExec
  split
  · exact ⟨s, rfl⟩
  · exact dispatchCheck_next _

theorem fetchExecute_next (s : State) : ∃ t, fetchExecute exec s = .next t := by
  unfold fetchExecute
  split
  · exact exec_next _ _
  · exact ⟨_, rfl⟩

theorem liveStep_next (s : State) : ∃ t, liveStep exec s = .next t := by
  unfold liveStep
  split
  · exact afterExec_next _
  · obtain ⟨t, ht⟩ := fetchExecute_next { s with cyc := 0 }
    rw [ht]
    exact afterExec_next t

theorem step_faulted {f : Fault} (h : s.fault = some f) : step s = .fault f := by rw [step, h]

theorem step_live (h : s.fault = none) : step s = liveStep exec s := by rw [step, h]

theorem step_next (h : s.fault = none) : ∃ t, step s = .next t := by
  rw [step_live h]
  exact liveStep_next s

/-- Settles O12, by whether a fault is held. -/
theorem stepStopsExactlyOnAHeldFault : Obligations.StepStopsExactlyOnAHeldFault := by
  intro s
  cases hf : s.fault with
  | some f =>
    rw [step_faulted hf]
    exact ⟨fun g => by simp, fun r => by simp, fun h => by simp at h⟩
  | none =>
    obtain ⟨t, ht⟩ := step_next hf
    rw [ht]
    exact ⟨fun g => by simp, fun r => by simp, fun _ => ⟨t, rfl⟩⟩

/-! The end of a step (R402, R405, R409). -/

theorem afterExec_live (h : s.fault = none) : afterExec s = dispatchCheck (advanced s) := by
  rw [afterExec, h]
  rfl

theorem afterExec_stepEnds (s : State) : StepEnds s (afterExec s) where
  faulted h := by
    obtain ⟨f, hf⟩ := Option.ne_none_iff_exists'.1 h
    rw [afterExec, hf]
  quiet h hquiet := (afterExec_live h).trans (dispatchCheck_quiet hquiet)
  interrupted h hime _ hi := (afterExec_live h).trans (dispatchCheck_lowest hime hi)

/-- Settles O13: a halted step is its end part alone. -/
theorem haltedStepCharges4 : Obligations.HaltedStepCharges4 := by
  intro s hf hh
  have hstep : step s = afterExec { s with cyc := 4 } := (step_live hf).trans (if_pos hh)
  rw [hstep]
  exact afterExec_stepEnds _

/-! A step that fetches a complete instruction (R404). -/

theorem fetchOperands_fetched (h : Fetched s (op :: rest)) (hlen : rest.length ≤ 2) :
    fetchOperands rest.length (afterFetch s 1) = .ok (rest.getD 0 0, rest.getD 1 0) (afterFetch s (rest.length + 1)) := by
  match rest with
  | [] => rfl
  | [b] => exact fetchOperands_one (busRead_operand h)
  | [b1, b2] =>
    have hsecond : busRead s (s.regs.pc + BitVec.ofNat 16 2) = .ok b2 := h 2 (by simp)
    exact (M.bind_ok (fetch8_afterFetch_ok (busRead_operand h))).trans (M.bind_ok (fetch8_afterFetch_ok hsecond))

theorem decodeFetched_ok {b1 b2 : Byte} (hsub : op = 0xCB → b1 ∉ s.extra.subs) (hdec : decodeOp op b1 b2 = .ok i) :
    decodeFetched op b1 b2 s = .ok i s := by
  have hallowed : (decide (op = 0xCB) && decide (b1 ∈ s.extra.subs)) = false := by
    rw [← Bool.decide_and]
    exact decide_eq_false fun h => hsub h.1 h.2
  rw [decodeFetched, view_bind, hallowed, if_neg Bool.false_ne_true, decodeOrRaise, hdec]
  rfl

/-- The bytes of an instruction, none of them in EXTRA_DECODE_ERRORS, are fetched and decoded to it. -/
theorem fetchInstr_decoded (h : Fetched s (op :: rest)) (hi : i ≠ .cbPrefix) (hdec : decode (op :: rest) = .instr i [])
    (hop : op ∉ s.extra.ops) (hsub : op = 0xCB → ∀ b ∈ rest, b ∉ s.extra.subs) :
    fetchInstr (afterFetch s 0) = .ok i (afterFetch s (rest.length + 1)) := by
  obtain ⟨hcb, -⟩ | ⟨op, rest, ⟨⟩, hlen, hd, hdrop⟩ := decode_eq_instr hdec
  · exact absurd hcb hi
  have htwo := operandBytes_le_two op
  have hall : operandBytes op = rest.length := le_antisymm hlen (List.drop_eq_nil_iff.1 hdrop.symm)
  rw [fetchInstr_opcode h hop, hall]
  refine (M.bind_ok (fetchOperands_fetched h (hall ▸ htwo))).trans (decodeFetched_ok (fun hcb => ?_) hd)
  subst hcb
  match rest, hall with
  | [b], _ => exact hsub rfl b (List.mem_singleton_self b)

/-- Settles O11: the fetch reaches `afterFetch`, the instruction `t`, and the rest is the end of a step. -/
theorem stepRunsTheDecodedInstruction : Obligations.StepRunsTheDecodedInstruction := by
  rintro s _ i op rest hs rfl hfetched hi hdec hop hsub t ht
  have hstep : step s = afterExec t := by
    rw [step_of_fetches hs, fetchExecute, fetchInstr_decoded hfetched hi hdec hop hsub]
    exact congrArg (Answer.andThen · afterExec) ht
  rw [hstep]
  exact afterExec_stepEnds t

/-! Runs (R401). -/

theorem run_succ_next {M : Host.Core} {s u : M.State} (h : M.step s = .next u) (k : Nat) : M.run (k + 1) s = M.run k u := by
  rw [Host.Core.run, h]

theorem run_succ_fault {M : Host.Core} {s : M.State} {f : M.Fault} (h : M.step s = .fault f) (k : Nat) :
    M.run (k + 1) s = .fault f := by
  rw [Host.Core.run, h]

/-- A run of at least one step starts with a step, from a state that holds no fault. -/
theorem step_of_run {k : Nat} (h : Host.Core.run Sys2Proof.core (k + 1) s = .next t) :
    ∃ u, step s = .next u ∧ s.fault = none ∧ Host.Core.run Sys2Proof.core k u = .next t := by
  cases hf : s.fault with
  | some f =>
    cases (run_succ_fault (M := Sys2Proof.core) (step_faulted hf) k).symm.trans h
  | none =>
    obtain ⟨u, hu⟩ := step_next hf
    exact ⟨u, hu, rfl, (run_succ_next (M := Sys2Proof.core) hu k).symm.trans h⟩

theorem run_inv (k : Nat) (s : State) (hs : s.Inv) (h : Host.Core.run Sys2Proof.core k s = .next t) : t.Inv := by
  induction k generalizing s with
  | zero => cases h; exact hs
  | succ k ih =>
    obtain ⟨u, hu, -, hrun⟩ := step_of_run h
    exact ih u (stepKeepsTheInvariant s u hs hu) hrun

theorem SafeRun.of_le {k j : Nat} (h : SafeRun k s) (hj : j ≤ k) : SafeRun j s := by
  obtain ⟨t, hrun, ht⟩ := h
  induction j generalizing k s with
  | zero =>
    refine ⟨s, rfl, ?_⟩
    cases k with
    | zero => cases hrun; exact ht
    | succ k =>
      obtain ⟨_, -, hf, -⟩ := step_of_run hrun
      exact hf
  | succ j ih =>
    obtain ⟨k, rfl⟩ : ∃ m, k = m + 1 := ⟨k - 1, by omega⟩
    obtain ⟨u, hu, -, hrest⟩ := step_of_run hrun
    obtain ⟨v, hv, hvf⟩ := ih (Nat.le_of_succ_le_succ hj) hrest
    exact ⟨v, (run_succ_next (M := Sys2Proof.core) hu j).trans hv, hvf⟩

/-- Settles O60: O4 along the run, and every shorter run of a safe one. -/
theorem safeRunsKeepTheInvariant : Obligations.SafeRunsKeepTheInvariant :=
  fun k s hs => ⟨fun _ => run_inv k s hs, fun h _ => h.of_le⟩

end Sys2Proof.Machine
end

section
/-! PROOFS. The machine that Construct makes: the state of R502 at the default parameters, and the invariant whatever the
parameters (70_reset_and_hazards.md R500, R502; 20_memory.md R94; 10_state.md R32, R56 to R58). -/

namespace Sys2Proof.Machine

open Sys2Proof.Spec

variable {p : Params} {size : Nat} {bytes : List Host.Cell} {rom : Rom} {nbanks cramSize : Nat} {s : State}

/-! What a construction that is not refused makes (R500). -/

/-- The machine that Construct makes of its parameters, the image and the two sizes derived from the image's header. -/
def machineOf (p : Params) (rom : Rom) (nbanks cramSize : Nat) : State :=
  { regs := initRegs p.cpu, ime := false, halted := false, cyc := 0, fault := none, ie := p.io.ie, ifr := p.io.ifr
    timer := { divc := p.io.divc, tima := p.io.tima, tma := p.io.tma, tac := p.io.tac }
    ppu := initPpu p
    joy := { keys := p.io.keys, jsel := p.io.jsel }
    cart := { rom := rom, nbanks := nbanks, cramSize := cramSize, cram := Memory.ofCells cramSize p.mem.cram,
              lo := p.io.lo, hi := p.io.hi, bmode := p.io.bmode, ramen := p.io.ramen }
    wram := Memory.ofCells 0x2000 p.mem.wram
    hram := Memory.ofCells 127 p.mem.hram
    serout := []
    extra := { ops := p.extraOps, subs := p.extraSubs } }

theorem construct_eq_machineOf (h : construct p size bytes = some s) : ∃ nbanks cramSize,
    bankCount ((imageOf size bytes).byte 0x0148).toNat = some nbanks ∧
    cramSizeOf ((imageOf size bytes).byte 0x0149).toNat = some cramSize ∧
    s = machineOf p (imageOf size bytes) nbanks cramSize := by
  unfold construct at h
  split at h
  case isTrue => cases h
  case isFalse =>
    dsimp only at h
    split at h
    next nbanks cramSize hbanks hcram => exact ⟨nbanks, cramSize, hbanks, hcram, (Option.some.inj h).symm⟩
    next => cases h

/-! The rows of R502 at the default parameters (R56 to R58). -/

theorem machineOf_default_startsAs (rom : Rom) (nbanks cramSize : Nat) :
    StartsAs (machineOf Config.params rom nbanks cramSize) where
  registers := rfl
  cpu := ⟨rfl, rfl, rfl, rfl⟩
  interrupts := ⟨rfl, rfl⟩
  timer := rfl
  lcd := ⟨rfl, rfl, rfl, rfl, rfl, rfl⟩
  ppuRegs := ⟨rfl, rfl, rfl, rfl, rfl, rfl, rfl, rfl⟩
  joypad := rfl
  latches := ⟨rfl, rfl, rfl, rfl⟩
  memories _ := ⟨rfl, rfl, rfl, rfl, rfl⟩
  screen _ _ := ⟨rfl, rfl⟩
  output := rfl
  extra := rfl

theorem construct_default_startsAs (h : construct Config.params size bytes = some s) : StartsAs s := by
  obtain ⟨nbanks, cramSize, -, -, rfl⟩ := construct_eq_machineOf h
  exact machineOf_default_startsAs _ nbanks cramSize

/-- `State.reset` is the machine that Construct makes of the blank image. -/
theorem construct_blank : construct Config.params Config.romSize [] = some State.reset := rfl

/-- Settles O1: `State.reset` is constructed too, so R502's rows for every constructed machine are its rows. -/
theorem constructionLeavesTheSpecState : Obligations.ConstructionLeavesTheSpecState :=
  ⟨fun _ _ _ => construct_default_startsAs, construct_default_startsAs construct_blank, construct_blank⟩

/-! The parts of the invariant, whatever the parameters. -/

theorem bankCount_legal {n : Nat} (h : bankCount n = some nbanks) : ∃ code, code ≤ 8 ∧ nbanks = 2 <<< code := by
  unfold bankCount at h
  split at h
  case isTrue hn => exact ⟨n, hn, (Option.some.inj h).symm⟩
  case isFalse => cases h

theorem cramSizeOf_legal {n : Nat} (h : cramSizeOf n = some cramSize) :
    cramSize ∈ [0, 0x800, 0x2000, 0x8000, 0x20000, 0x10000] := by
  by_cases hn : n ≤ 5
  · cases (cramSizeOf_le hn).symm.trans h
    interval_cases n <;> decide
  · cases (cramSizeOf_gt (Nat.lt_of_not_le hn)).symm.trans h

/-- F's low nibble is masked away whatever INIT_CPU is (R56). -/
theorem initRegs_flags (c : InitCpu) : (initRegs c).f &&& 0x0F = 0 := by
  show c.f &&& 0xF0 &&& 0x0F = 0
  rw [BitVec.and_assoc]
  exact BitVec.and_zero

theorem machineOf_memoryWf (hrom : Memory.wf rom.size rom.bytes) : (machineOf p rom nbanks cramSize).MemoryWf where
  wram := Memory.ofCells_wf _ _
  hram := Memory.ofCells_wf _ _
  vram := Memory.ofCells_wf _ _
  oam := Memory.ofCells_wf _ _
  cram := Memory.ofCells_wf _ _
  rom := hrom
  fb := ⟨List.Pairwise.nil, List.forall_mem_nil _⟩
  bgpri := ⟨List.Pairwise.nil, List.forall_mem_nil _⟩

/-- R57 fixes the mode from LCDC bit 7, and LY and pcnt at 0: the frame starts in mode 2, and the frozen PPU stands in mode 0. -/
theorem initPpu_timingLegal (p : Params) : (initPpu p).TimingLegal := by
  have hmode : (initPpu p).mode = if (initPpu p).displayOn then .oamScan else .hblank := rfl
  constructor
  · intro hoff
    rw [hoff] at hmode
    exact ⟨hmode, rfl, rfl⟩
  · intro hon
    rw [hon] at hmode
    rw [hmode]
    show (0 : Word).toNat < PpuMode.oamScan.length ∧ (0 : Byte).toNat ≤ 153 ∧
      (PpuMode.oamScan = .vblank ↔ 144 ≤ (0 : Byte).toNat)
    decide

theorem machineOf_inv (hrom : Memory.wf rom.size rom.bytes)
    (hcart : (machineOf p rom nbanks cramSize).cart.SizesLegal) : (machineOf p rom nbanks cramSize).Inv where
  memory := machineOf_memoryWf hrom
  flags := initRegs_flags p.cpu
  timing := initPpu_timingLegal p
  shades := List.forall_mem_nil _
  halt := fun hhalted => Bool.noConfusion hhalted
  cart := hcart

theorem construct_inv (h : construct p size bytes = some s) : s.Inv := by
  obtain ⟨nbanks, cramSize, hbanks, hcram, rfl⟩ := construct_eq_machineOf h
  exact machineOf_inv (Memory.ofCells_wf size bytes) ⟨bankCount_legal hbanks, cramSizeOf_legal hcram⟩

/-- Settles O3: the invariant holds of every constructed machine, and `State.reset` is one. -/
theorem constructionMeetsTheInvariant : Obligations.ConstructionMeetsTheInvariant :=
  ⟨fun _ _ _ _ => construct_inv, construct_inv construct_blank⟩

end Sys2Proof.Machine
end
